-- ==== Sys2Proof/Word.lean ====
section
/-! DEFINITION. The bit-vector types of the two profiles (spec 00_scope.md R11). -/

namespace Sys2Proof

/-- A byte: 8 bits (R11), the unit of memory and the width of an N8 register. -/
abbrev Byte := BitVec 8

/-- A half-word: 16 bits (R11), the width of an N8 address, pair, SP and PC. -/
abbrev Half := BitVec 16

/-- A word: 32 bits (R11), the width of an A32 register, address and instruction. -/
abbrev Word := BitVec 32

/-- A double word: the 64-bit result of a long multiply (R334). -/
abbrev DWord := BitVec 64

/-- An A32 register field: four bits that name R0 to R15 directly (R180). -/
abbrev Reg := BitVec 4

end Sys2Proof
end

