-- ==== Sys2Proof/Config.lean ====
section
/-! DEFINITION. The parameters of 00_scope.md R10 as plain data, and the free values of the model.
The default values stand in Machine/Defaults.lean. -/

namespace Sys2Proof

/-- The profile of the core (R2): A32 is the ARM state of the ARM7TDMI, N8 the SM83 (R3). -/
inductive Profile where
  | a32
  | n8
  deriving DecidableEq, Repr

/-- Handling of an unrecognized A32 class (R226, `DECODE_MODE`). -/
inductive DecodeMode where
  | strict
  | permissive
  deriving DecidableEq, Repr

/-- The two variants of a region (R102). `block` says which I/O block a region is: its bindings (R128) are those that
`Config.bindings` lists under it (DESIGN CHOICE, log 16). -/
inductive RegionKind where
  | buffer (readOnly : Bool)
  | io (block : Nat)
  deriving DecidableEq, Repr

/-- A region (R102, R105). `base` is where its bytes stand in the model's one backing store: local
offset `o` is cell `base + o` (DESIGN CHOICE, log 4: the spec gives each region an array of its own). -/
structure Region where
  kind : RegionKind
  size : Nat
  base : Nat
  deriving DecidableEq, Repr

/-- A mapping entry `(start, end, region, local_base)` with `last` the inclusive end (R110). -/
structure MapEntry where
  start : Nat
  last : Nat
  region : Region
  localBase : Nat
  deriving DecidableEq, Repr

/-- The rows of the cycle tables R600 (A32) and R601 (N8), each with what its cost depends on. -/
inductive CostRow where
  | condFailed | unrecognizedNoOp
  | dataProc (registerShift writesPc : Bool)
  | b | bl | bx | mrs | msr
  | mul (m : Nat) | mla (m : Nat) | longMul (m : Nat) | longMla (m : Nat)
  | load (writesPc : Bool) | store
  | ldm (n : Nat) (writesPc : Bool) | stm (n : Nat) | swap
  | nop | halt | ldRR | ldRHL | ldRD8 | ldHLD8 | ldAInd | ldAStep | ldAAbs | ldh | ldAC
  | ldR16 | ldA16SP | ldSPHL | push | pop
  | aluR | aluHL | aluD8 | incDecR | incDecHL | incDecR16 | addHL | addSP | ldHLSP
  | rotA | adjust | jp | jpCc (taken : Bool) | jpHL | jr | jrCc (taken : Bool)
  | call | callCc (taken : Bool) | ret | retCc (taken : Bool) | rst
  | cbR | cbHL | bitR | bitHL
  deriving DecidableEq, Repr

/-- The setup of a core (R10, R110): fixed before the first step and changed by no step (R110, R582).
`bindings` lists the offsets of I/O blocks that `io_bind` has bound, as (block, offset) (R102, R128).
`costs` lists the cost rows for which a core overrides the default of R600 and R601 (R598). -/
structure Config where
  profile : Profile
  decodeMode : DecodeMode
  storedPcOffset : Word
  resetStatusA32 : Word
  resetStatusN8 : Byte
  map : List MapEntry
  bindings : List (Nat × Nat)
  costs : List (CostRow × Nat)
  deriving DecidableEq, Repr

/-- FREE VALUE `IO_READ` (R10, R129): the byte that draw number `k` gives for local offset `o` of an
I/O block. Nothing constrains it (log 5). -/
opaque Config.ioRead : (k o : Nat) → Byte

/-- FREE VALUE `MUL_FLAG_DRAW` (R10, R331): the flag that draw number `k` gives after a flag-setting
multiply. Nothing constrains it (log 5). -/
opaque Config.mulFlag : (k : Nat) → Bool

end Sys2Proof
end

