-- ==== Sys2Proof/Syntax.lean ====
section
/-! DEFINITION. The instruction syntax: one constructor for every row of spec/opcode_table.json, and the
names its operands and operations go by (30_encoding.md, 42_a32_data_processing.md, 47_n8_alu.md). -/

namespace Sys2Proof

/-- The sixteen condition codes of R161. `unknown` is 0b1111, which executes as `al` (R162). -/
inductive Cond where
  | eq | ne | cs | cc | mi | pl | vs | vc | hi | ls | ge | lt | gt | le | al | unknown
  deriving DecidableEq, Repr

/-- The shift field (R171): 0b00 LSL, 0b01 LSR, 0b10 ASR, 0b11 ROR. -/
inductive ShiftKind where
  | lsl | lsr | asr | ror
  deriving DecidableEq, Repr

/-- A rotated immediate: `rotate` and `imm8` (R181). -/
structure RotImm where
  rot : BitVec 4
  imm : Byte
  deriving DecidableEq, Repr

/-- A register shifted by an immediate: `shift`, `shift_imm`, `Rm` (R171, R184). -/
structure ShiftImm where
  kind : ShiftKind
  amount : BitVec 5
  rm : Reg
  deriving DecidableEq, Repr

/-- A register shifted by a register: `shift`, `Rs`, `Rm` (R171, R184). -/
structure ShiftReg where
  kind : ShiftKind
  rs : Reg
  rm : Reg
  deriving DecidableEq, Repr

/-- The sixteen data-processing operations in opcode order (R171). -/
inductive DpOp where
  | and | eor | sub | rsb | add | adc | sbc | rsc | tst | teq | cmp | cmn | orr | mov | bic | mvn
  deriving DecidableEq, Repr

/-- The eight N8 registers in storage order (R67). -/
inductive R8 where
  | a | f | b | c | d | e | h | l
  deriving DecidableEq, Repr

/-- The 16-bit register field `rr` (R201). -/
inductive R16 where
  | bc | de | hl | sp
  deriving DecidableEq, Repr

/-- The pair field `qq` (R201), and the pair views of R68. -/
inductive Pair where
  | bc | de | hl | af
  deriving DecidableEq, Repr

/-- The N8 condition field `cc` (R201). -/
inductive CC where
  | nz | z | nc | c
  deriving DecidableEq, Repr

/-- The `alu` field (R201). -/
inductive AluOp where
  | add | adc | sub | sbc | and | xor | or | cp
  deriving DecidableEq, Repr

/-- The sub-operation of CB group 0 (R201). -/
inductive RotOp where
  | rlc | rrc | rl | rr | sla | sra | swap | srl
  deriving DecidableEq, Repr

/-- The instructions of both profiles, one constructor per row of the opcode table: first the 102 rows of
A32 (R171), then the N8 rows with operand bytes, then the other base opcodes of N8 (R204), then the 256
prefixed ones (R205). (Constructors with arguments stand first because Lean's runtime wants it.) Fields the formats
fix (SBZ, SBO, R, the S bit of a block transfer) are not operands (R185). Memory operands of N8 are named
`mhl` (HL), `mhli` (HL+), `mhld` (HL-), `mbc` (BC), `mde` (DE), `ma16` (a16), `ma8` (a8), `mc` (C). -/
inductive Instr where
  -- R261
  | b (cond : Cond) (offset24 : BitVec 24)
  -- R262
  | bl (cond : Cond) (offset24 : BitVec 24)
  -- R263
  | bx (cond : Cond) (rm : Reg)
  -- R285
  | andImm (cond : Cond) (sf : Bool) (rn : Reg) (rd : Reg) (op : RotImm)
  | andShift (cond : Cond) (sf : Bool) (rn : Reg) (rd : Reg) (op : ShiftImm)
  | andShiftReg (cond : Cond) (sf : Bool) (rn : Reg) (rd : Reg) (op : ShiftReg)
  -- R286
  | eorImm (cond : Cond) (sf : Bool) (rn : Reg) (rd : Reg) (op : RotImm)
  | eorShift (cond : Cond) (sf : Bool) (rn : Reg) (rd : Reg) (op : ShiftImm)
  | eorShiftReg (cond : Cond) (sf : Bool) (rn : Reg) (rd : Reg) (op : ShiftReg)
  -- R287
  | subImm (cond : Cond) (sf : Bool) (rn : Reg) (rd : Reg) (op : RotImm)
  | subShift (cond : Cond) (sf : Bool) (rn : Reg) (rd : Reg) (op : ShiftImm)
  | subShiftReg (cond : Cond) (sf : Bool) (rn : Reg) (rd : Reg) (op : ShiftReg)
  -- R288
  | rsbImm (cond : Cond) (sf : Bool) (rn : Reg) (rd : Reg) (op : RotImm)
  | rsbShift (cond : Cond) (sf : Bool) (rn : Reg) (rd : Reg) (op : ShiftImm)
  | rsbShiftReg (cond : Cond) (sf : Bool) (rn : Reg) (rd : Reg) (op : ShiftReg)
  -- R289
  | addImm (cond : Cond) (sf : Bool) (rn : Reg) (rd : Reg) (op : RotImm)
  | addShift (cond : Cond) (sf : Bool) (rn : Reg) (rd : Reg) (op : ShiftImm)
  | addShiftReg (cond : Cond) (sf : Bool) (rn : Reg) (rd : Reg) (op : ShiftReg)
  -- R290
  | adcImm (cond : Cond) (sf : Bool) (rn : Reg) (rd : Reg) (op : RotImm)
  | adcShift (cond : Cond) (sf : Bool) (rn : Reg) (rd : Reg) (op : ShiftImm)
  | adcShiftReg (cond : Cond) (sf : Bool) (rn : Reg) (rd : Reg) (op : ShiftReg)
  -- R291
  | sbcImm (cond : Cond) (sf : Bool) (rn : Reg) (rd : Reg) (op : RotImm)
  | sbcShift (cond : Cond) (sf : Bool) (rn : Reg) (rd : Reg) (op : ShiftImm)
  | sbcShiftReg (cond : Cond) (sf : Bool) (rn : Reg) (rd : Reg) (op : ShiftReg)
  -- R292
  | rscImm (cond : Cond) (sf : Bool) (rn : Reg) (rd : Reg) (op : RotImm)
  | rscShift (cond : Cond) (sf : Bool) (rn : Reg) (rd : Reg) (op : ShiftImm)
  | rscShiftReg (cond : Cond) (sf : Bool) (rn : Reg) (rd : Reg) (op : ShiftReg)
  -- R293
  | tstImm (cond : Cond) (rn : Reg) (op : RotImm)
  | tstShift (cond : Cond) (rn : Reg) (op : ShiftImm)
  | tstShiftReg (cond : Cond) (rn : Reg) (op : ShiftReg)
  -- R294
  | teqImm (cond : Cond) (rn : Reg) (op : RotImm)
  | teqShift (cond : Cond) (rn : Reg) (op : ShiftImm)
  | teqShiftReg (cond : Cond) (rn : Reg) (op : ShiftReg)
  -- R295
  | cmpImm (cond : Cond) (rn : Reg) (op : RotImm)
  | cmpShift (cond : Cond) (rn : Reg) (op : ShiftImm)
  | cmpShiftReg (cond : Cond) (rn : Reg) (op : ShiftReg)
  -- R296
  | cmnImm (cond : Cond) (rn : Reg) (op : RotImm)
  | cmnShift (cond : Cond) (rn : Reg) (op : ShiftImm)
  | cmnShiftReg (cond : Cond) (rn : Reg) (op : ShiftReg)
  -- R297
  | orrImm (cond : Cond) (sf : Bool) (rn : Reg) (rd : Reg) (op : RotImm)
  | orrShift (cond : Cond) (sf : Bool) (rn : Reg) (rd : Reg) (op : ShiftImm)
  | orrShiftReg (cond : Cond) (sf : Bool) (rn : Reg) (rd : Reg) (op : ShiftReg)
  -- R298
  | movImm (cond : Cond) (sf : Bool) (rd : Reg) (op : RotImm)
  | movShift (cond : Cond) (sf : Bool) (rd : Reg) (op : ShiftImm)
  | movShiftReg (cond : Cond) (sf : Bool) (rd : Reg) (op : ShiftReg)
  -- R299
  | bicImm (cond : Cond) (sf : Bool) (rn : Reg) (rd : Reg) (op : RotImm)
  | bicShift (cond : Cond) (sf : Bool) (rn : Reg) (rd : Reg) (op : ShiftImm)
  | bicShiftReg (cond : Cond) (sf : Bool) (rn : Reg) (rd : Reg) (op : ShiftReg)
  -- R300
  | mvnImm (cond : Cond) (sf : Bool) (rd : Reg) (op : RotImm)
  | mvnShift (cond : Cond) (sf : Bool) (rd : Reg) (op : ShiftImm)
  | mvnShiftReg (cond : Cond) (sf : Bool) (rd : Reg) (op : ShiftReg)
  -- R350
  | mrs (cond : Cond) (rd : Reg)
  -- R351
  | msrReg (cond : Cond) (mask : BitVec 4) (rm : Reg)
  -- R353
  | msrImm (cond : Cond) (mask : BitVec 4) (op : RotImm)
  -- R332
  | mul (cond : Cond) (sf : Bool) (rd : Reg) (rs : Reg) (rm : Reg)
  -- R333
  | mla (cond : Cond) (sf : Bool) (rd : Reg) (rn : Reg) (rs : Reg) (rm : Reg)
  -- R334
  | umull (cond : Cond) (sf : Bool) (rdHi : Reg) (rdLo : Reg) (rs : Reg) (rm : Reg)
  -- R335
  | umlal (cond : Cond) (sf : Bool) (rdHi : Reg) (rdLo : Reg) (rs : Reg) (rm : Reg)
  -- R336
  | smull (cond : Cond) (sf : Bool) (rdHi : Reg) (rdLo : Reg) (rs : Reg) (rm : Reg)
  -- R337
  | smlal (cond : Cond) (sf : Bool) (rdHi : Reg) (rdLo : Reg) (rs : Reg) (rm : Reg)
  -- R390
  | swp (cond : Cond) (rn : Reg) (rd : Reg) (rm : Reg)
  -- R391
  | swpb (cond : Cond) (rn : Reg) (rd : Reg) (rm : Reg)
  -- R364
  | ldrImmPre (cond : Cond) (up : Bool) (wb : Bool) (rn : Reg) (rd : Reg) (imm12 : BitVec 12)
  | ldrImmPost (cond : Cond) (up : Bool) (rn : Reg) (rd : Reg) (imm12 : BitVec 12)
  | ldrRegPre (cond : Cond) (up : Bool) (wb : Bool) (rn : Reg) (rd : Reg) (op : ShiftImm)
  | ldrRegPost (cond : Cond) (up : Bool) (rn : Reg) (rd : Reg) (op : ShiftImm)
  -- R368
  | ldrtImm (cond : Cond) (up : Bool) (rn : Reg) (rd : Reg) (imm12 : BitVec 12)
  | ldrtReg (cond : Cond) (up : Bool) (rn : Reg) (rd : Reg) (op : ShiftImm)
  -- R365
  | ldrbImmPre (cond : Cond) (up : Bool) (wb : Bool) (rn : Reg) (rd : Reg) (imm12 : BitVec 12)
  | ldrbImmPost (cond : Cond) (up : Bool) (rn : Reg) (rd : Reg) (imm12 : BitVec 12)
  | ldrbRegPre (cond : Cond) (up : Bool) (wb : Bool) (rn : Reg) (rd : Reg) (op : ShiftImm)
  | ldrbRegPost (cond : Cond) (up : Bool) (rn : Reg) (rd : Reg) (op : ShiftImm)
  -- R368
  | ldrbtImm (cond : Cond) (up : Bool) (rn : Reg) (rd : Reg) (imm12 : BitVec 12)
  | ldrbtReg (cond : Cond) (up : Bool) (rn : Reg) (rd : Reg) (op : ShiftImm)
  -- R366
  | strImmPre (cond : Cond) (up : Bool) (wb : Bool) (rn : Reg) (rd : Reg) (imm12 : BitVec 12)
  | strImmPost (cond : Cond) (up : Bool) (rn : Reg) (rd : Reg) (imm12 : BitVec 12)
  | strRegPre (cond : Cond) (up : Bool) (wb : Bool) (rn : Reg) (rd : Reg) (op : ShiftImm)
  | strRegPost (cond : Cond) (up : Bool) (rn : Reg) (rd : Reg) (op : ShiftImm)
  -- R368
  | strtImm (cond : Cond) (up : Bool) (rn : Reg) (rd : Reg) (imm12 : BitVec 12)
  | strtReg (cond : Cond) (up : Bool) (rn : Reg) (rd : Reg) (op : ShiftImm)
  -- R367
  | strbImmPre (cond : Cond) (up : Bool) (wb : Bool) (rn : Reg) (rd : Reg) (imm12 : BitVec 12)
  | strbImmPost (cond : Cond) (up : Bool) (rn : Reg) (rd : Reg) (imm12 : BitVec 12)
  | strbRegPre (cond : Cond) (up : Bool) (wb : Bool) (rn : Reg) (rd : Reg) (op : ShiftImm)
  | strbRegPost (cond : Cond) (up : Bool) (rn : Reg) (rd : Reg) (op : ShiftImm)
  -- R368
  | strbtImm (cond : Cond) (up : Bool) (rn : Reg) (rd : Reg) (imm12 : BitVec 12)
  | strbtReg (cond : Cond) (up : Bool) (rn : Reg) (rd : Reg) (op : ShiftImm)
  -- R370
  | ldrhImm (cond : Cond) (pre : Bool) (up : Bool) (wb : Bool) (rn : Reg) (rd : Reg) (imm8 : Byte)
  | ldrhReg (cond : Cond) (pre : Bool) (up : Bool) (wb : Bool) (rn : Reg) (rd : Reg) (rm : Reg)
  -- R373
  | strhImm (cond : Cond) (pre : Bool) (up : Bool) (wb : Bool) (rn : Reg) (rd : Reg) (imm8 : Byte)
  | strhReg (cond : Cond) (pre : Bool) (up : Bool) (wb : Bool) (rn : Reg) (rd : Reg) (rm : Reg)
  -- R374
  | ldrsbImm (cond : Cond) (pre : Bool) (up : Bool) (wb : Bool) (rn : Reg) (rd : Reg) (imm8 : Byte)
  | ldrsbReg (cond : Cond) (pre : Bool) (up : Bool) (wb : Bool) (rn : Reg) (rd : Reg) (rm : Reg)
  -- R375
  | ldrshImm (cond : Cond) (pre : Bool) (up : Bool) (wb : Bool) (rn : Reg) (rd : Reg) (imm8 : Byte)
  | ldrshReg (cond : Cond) (pre : Bool) (up : Bool) (wb : Bool) (rn : Reg) (rd : Reg) (rm : Reg)
  -- R382
  | ldmda (cond : Cond) (wb : Bool) (rn : Reg) (list : BitVec 16)
  | ldmia (cond : Cond) (wb : Bool) (rn : Reg) (list : BitVec 16)
  | ldmdb (cond : Cond) (wb : Bool) (rn : Reg) (list : BitVec 16)
  | ldmib (cond : Cond) (wb : Bool) (rn : Reg) (list : BitVec 16)
  -- R383
  | stmda (cond : Cond) (wb : Bool) (rn : Reg) (list : BitVec 16)
  | stmia (cond : Cond) (wb : Bool) (rn : Reg) (list : BitVec 16)
  | stmdb (cond : Cond) (wb : Bool) (rn : Reg) (list : BitVec 16)
  | stmib (cond : Cond) (wb : Bool) (rn : Reg) (list : BitVec 16)
  -- R420
  | ld_bc_d16 (d16 : Half)
  -- R404
  | ld_b_d8 (d8 : Byte)
  -- R421
  | ld_ma16_sp (a16 : Half)
  -- R404
  | ld_c_d8 (d8 : Byte)
  -- R420
  | ld_de_d16 (d16 : Half)
  -- R404
  | ld_d_d8 (d8 : Byte)
  -- R516
  | jr_e8 (e8 : Byte)
  -- R404
  | ld_e_d8 (d8 : Byte)
  -- R517
  | jr_nz_e8 (e8 : Byte)
  -- R420
  | ld_hl_d16 (d16 : Half)
  -- R404
  | ld_h_d8 (d8 : Byte)
  -- R517
  | jr_z_e8 (e8 : Byte)
  -- R404
  | ld_l_d8 (d8 : Byte)
  -- R517
  | jr_nc_e8 (e8 : Byte)
  -- R420
  | ld_sp_d16 (d16 : Half)
  -- R405
  | ld_mhl_d8 (d8 : Byte)
  -- R517
  | jr_c_e8 (e8 : Byte)
  -- R404
  | ld_a_d8 (d8 : Byte)
  -- R514
  | jp_nz_a16 (a16 : Half)
  -- R513
  | jp_a16 (a16 : Half)
  -- R519
  | call_nz_a16 (a16 : Half)
  -- R441
  | add_a_d8 (d8 : Byte)
  -- R514
  | jp_z_a16 (a16 : Half)
  -- R519
  | call_z_a16 (a16 : Half)
  -- R518
  | call_a16 (a16 : Half)
  -- R442
  | adc_a_d8 (d8 : Byte)
  -- R514
  | jp_nc_a16 (a16 : Half)
  -- R519
  | call_nc_a16 (a16 : Half)
  -- R443
  | sub_d8 (d8 : Byte)
  -- R514
  | jp_c_a16 (a16 : Half)
  -- R519
  | call_c_a16 (a16 : Half)
  -- R444
  | sbc_a_d8 (d8 : Byte)
  -- R413
  | ldh_ma8_a (a8 : Byte)
  -- R445
  | and_d8 (d8 : Byte)
  -- R456
  | add_sp_e8 (e8 : Byte)
  -- R411
  | ld_ma16_a (a16 : Half)
  -- R446
  | xor_d8 (d8 : Byte)
  -- R412
  | ldh_a_ma8 (a8 : Byte)
  -- R447
  | or_d8 (d8 : Byte)
  -- R457
  | ld_hl_sp_e8 (e8 : Byte)
  -- R410
  | ld_a_ma16 (a16 : Half)
  -- R448
  | cp_d8 (d8 : Byte)
  -- R511
  | nop
  -- R408
  | ld_mbc_a
  -- R453
  | inc_bc
  -- R449
  | inc_b
  -- R451
  | dec_b
  -- R462
  | rlca
  -- R455
  | add_hl_bc
  -- R406
  | ld_a_mbc
  -- R454
  | dec_bc
  -- R449
  | inc_c
  -- R451
  | dec_c
  -- R463
  | rrca
  -- R409
  | ld_mde_a
  -- R453
  | inc_de
  -- R449
  | inc_d
  -- R451
  | dec_d
  -- R464
  | rla
  -- R455
  | add_hl_de
  -- R407
  | ld_a_mde
  -- R454
  | dec_de
  -- R449
  | inc_e
  -- R451
  | dec_e
  -- R465
  | rra
  -- R418
  | ld_mhli_a
  -- R453
  | inc_hl
  -- R449
  | inc_h
  -- R451
  | dec_h
  -- R458
  | daa
  -- R455
  | add_hl_hl
  -- R416
  | ld_a_mhli
  -- R454
  | dec_hl
  -- R449
  | inc_l
  -- R451
  | dec_l
  -- R459
  | cpl
  -- R419
  | ld_mhld_a
  -- R453
  | inc_sp
  -- R450
  | inc_mhl
  -- R452
  | dec_mhl
  -- R460
  | scf
  -- R455
  | add_hl_sp
  -- R417
  | ld_a_mhld
  -- R454
  | dec_sp
  -- R449
  | inc_a
  -- R451
  | dec_a
  -- R461
  | ccf
  -- R401
  | ld_b_b
  | ld_b_c
  | ld_b_d
  | ld_b_e
  | ld_b_h
  | ld_b_l
  -- R402
  | ld_b_mhl
  -- R401
  | ld_b_a
  | ld_c_b
  | ld_c_c
  | ld_c_d
  | ld_c_e
  | ld_c_h
  | ld_c_l
  -- R402
  | ld_c_mhl
  -- R401
  | ld_c_a
  | ld_d_b
  | ld_d_c
  | ld_d_d
  | ld_d_e
  | ld_d_h
  | ld_d_l
  -- R402
  | ld_d_mhl
  -- R401
  | ld_d_a
  | ld_e_b
  | ld_e_c
  | ld_e_d
  | ld_e_e
  | ld_e_h
  | ld_e_l
  -- R402
  | ld_e_mhl
  -- R401
  | ld_e_a
  | ld_h_b
  | ld_h_c
  | ld_h_d
  | ld_h_e
  | ld_h_h
  | ld_h_l
  -- R402
  | ld_h_mhl
  -- R401
  | ld_h_a
  | ld_l_b
  | ld_l_c
  | ld_l_d
  | ld_l_e
  | ld_l_h
  | ld_l_l
  -- R402
  | ld_l_mhl
  -- R401
  | ld_l_a
  -- R403
  | ld_mhl_b
  | ld_mhl_c
  | ld_mhl_d
  | ld_mhl_e
  | ld_mhl_h
  | ld_mhl_l
  -- R512
  | halt
  -- R403
  | ld_mhl_a
  -- R401
  | ld_a_b
  | ld_a_c
  | ld_a_d
  | ld_a_e
  | ld_a_h
  | ld_a_l
  -- R402
  | ld_a_mhl
  -- R401
  | ld_a_a
  -- R441
  | add_a_b
  | add_a_c
  | add_a_d
  | add_a_e
  | add_a_h
  | add_a_l
  | add_a_mhl
  | add_a_a
  -- R442
  | adc_a_b
  | adc_a_c
  | adc_a_d
  | adc_a_e
  | adc_a_h
  | adc_a_l
  | adc_a_mhl
  | adc_a_a
  -- R443
  | sub_b
  | sub_c
  | sub_d
  | sub_e
  | sub_h
  | sub_l
  | sub_mhl
  | sub_a
  -- R444
  | sbc_a_b
  | sbc_a_c
  | sbc_a_d
  | sbc_a_e
  | sbc_a_h
  | sbc_a_l
  | sbc_a_mhl
  | sbc_a_a
  -- R445
  | and_b
  | and_c
  | and_d
  | and_e
  | and_h
  | and_l
  | and_mhl
  | and_a
  -- R446
  | xor_b
  | xor_c
  | xor_d
  | xor_e
  | xor_h
  | xor_l
  | xor_mhl
  | xor_a
  -- R447
  | or_b
  | or_c
  | or_d
  | or_e
  | or_h
  | or_l
  | or_mhl
  | or_a
  -- R448
  | cp_b
  | cp_c
  | cp_d
  | cp_e
  | cp_h
  | cp_l
  | cp_mhl
  | cp_a
  -- R521
  | ret_nz
  -- R426
  | pop_bc
  -- R425
  | push_bc
  -- R522
  | rst_00
  -- R521
  | ret_z
  -- R520
  | ret
  -- R522
  | rst_08
  -- R521
  | ret_nc
  -- R426
  | pop_de
  -- R425
  | push_de
  -- R522
  | rst_10
  -- R521
  | ret_c
  -- R522
  | rst_18
  -- R426
  | pop_hl
  -- R415
  | ld_mc_a
  -- R425
  | push_hl
  -- R522
  | rst_20
  -- R515
  | jp_hl
  -- R522
  | rst_28
  -- R426
  | pop_af
  -- R414
  | ld_a_mc
  -- R425
  | push_af
  -- R522
  | rst_30
  -- R422
  | ld_sp_hl
  -- R522
  | rst_38
  -- R491
  | rlc_b
  | rlc_c
  | rlc_d
  | rlc_e
  | rlc_h
  | rlc_l
  | rlc_mhl
  | rlc_a
  -- R492
  | rrc_b
  | rrc_c
  | rrc_d
  | rrc_e
  | rrc_h
  | rrc_l
  | rrc_mhl
  | rrc_a
  -- R493
  | rl_b
  | rl_c
  | rl_d
  | rl_e
  | rl_h
  | rl_l
  | rl_mhl
  | rl_a
  -- R494
  | rr_b
  | rr_c
  | rr_d
  | rr_e
  | rr_h
  | rr_l
  | rr_mhl
  | rr_a
  -- R495
  | sla_b
  | sla_c
  | sla_d
  | sla_e
  | sla_h
  | sla_l
  | sla_mhl
  | sla_a
  -- R496
  | sra_b
  | sra_c
  | sra_d
  | sra_e
  | sra_h
  | sra_l
  | sra_mhl
  | sra_a
  -- R497
  | swap_b
  | swap_c
  | swap_d
  | swap_e
  | swap_h
  | swap_l
  | swap_mhl
  | swap_a
  -- R498
  | srl_b
  | srl_c
  | srl_d
  | srl_e
  | srl_h
  | srl_l
  | srl_mhl
  | srl_a
  -- R499
  | bit_0_b
  | bit_0_c
  | bit_0_d
  | bit_0_e
  | bit_0_h
  | bit_0_l
  | bit_0_mhl
  | bit_0_a
  | bit_1_b
  | bit_1_c
  | bit_1_d
  | bit_1_e
  | bit_1_h
  | bit_1_l
  | bit_1_mhl
  | bit_1_a
  | bit_2_b
  | bit_2_c
  | bit_2_d
  | bit_2_e
  | bit_2_h
  | bit_2_l
  | bit_2_mhl
  | bit_2_a
  | bit_3_b
  | bit_3_c
  | bit_3_d
  | bit_3_e
  | bit_3_h
  | bit_3_l
  | bit_3_mhl
  | bit_3_a
  | bit_4_b
  | bit_4_c
  | bit_4_d
  | bit_4_e
  | bit_4_h
  | bit_4_l
  | bit_4_mhl
  | bit_4_a
  | bit_5_b
  | bit_5_c
  | bit_5_d
  | bit_5_e
  | bit_5_h
  | bit_5_l
  | bit_5_mhl
  | bit_5_a
  | bit_6_b
  | bit_6_c
  | bit_6_d
  | bit_6_e
  | bit_6_h
  | bit_6_l
  | bit_6_mhl
  | bit_6_a
  | bit_7_b
  | bit_7_c
  | bit_7_d
  | bit_7_e
  | bit_7_h
  | bit_7_l
  | bit_7_mhl
  | bit_7_a
  -- R500
  | res_0_b
  | res_0_c
  | res_0_d
  | res_0_e
  | res_0_h
  | res_0_l
  | res_0_mhl
  | res_0_a
  | res_1_b
  | res_1_c
  | res_1_d
  | res_1_e
  | res_1_h
  | res_1_l
  | res_1_mhl
  | res_1_a
  | res_2_b
  | res_2_c
  | res_2_d
  | res_2_e
  | res_2_h
  | res_2_l
  | res_2_mhl
  | res_2_a
  | res_3_b
  | res_3_c
  | res_3_d
  | res_3_e
  | res_3_h
  | res_3_l
  | res_3_mhl
  | res_3_a
  | res_4_b
  | res_4_c
  | res_4_d
  | res_4_e
  | res_4_h
  | res_4_l
  | res_4_mhl
  | res_4_a
  | res_5_b
  | res_5_c
  | res_5_d
  | res_5_e
  | res_5_h
  | res_5_l
  | res_5_mhl
  | res_5_a
  | res_6_b
  | res_6_c
  | res_6_d
  | res_6_e
  | res_6_h
  | res_6_l
  | res_6_mhl
  | res_6_a
  | res_7_b
  | res_7_c
  | res_7_d
  | res_7_e
  | res_7_h
  | res_7_l
  | res_7_mhl
  | res_7_a
  -- R501
  | set_0_b
  | set_0_c
  | set_0_d
  | set_0_e
  | set_0_h
  | set_0_l
  | set_0_mhl
  | set_0_a
  | set_1_b
  | set_1_c
  | set_1_d
  | set_1_e
  | set_1_h
  | set_1_l
  | set_1_mhl
  | set_1_a
  | set_2_b
  | set_2_c
  | set_2_d
  | set_2_e
  | set_2_h
  | set_2_l
  | set_2_mhl
  | set_2_a
  | set_3_b
  | set_3_c
  | set_3_d
  | set_3_e
  | set_3_h
  | set_3_l
  | set_3_mhl
  | set_3_a
  | set_4_b
  | set_4_c
  | set_4_d
  | set_4_e
  | set_4_h
  | set_4_l
  | set_4_mhl
  | set_4_a
  | set_5_b
  | set_5_c
  | set_5_d
  | set_5_e
  | set_5_h
  | set_5_l
  | set_5_mhl
  | set_5_a
  | set_6_b
  | set_6_c
  | set_6_d
  | set_6_e
  | set_6_h
  | set_6_l
  | set_6_mhl
  | set_6_a
  | set_7_b
  | set_7_c
  | set_7_d
  | set_7_e
  | set_7_h
  | set_7_l
  | set_7_mhl
  | set_7_a
  deriving DecidableEq, Repr

end Sys2Proof
end

