-- ==== Sys2Proof/WellFormed.lean ====
section
/-! DEFINITION. The operand combinations an A32 instruction may not have (30_encoding.md R186), each with the
reason of 60_exceptions.md R543, and what it is for an instruction to be well-formed. -/

namespace Sys2Proof

/-- The reasons of a `DecodeError` (R543). -/
inductive DecodeReason where
  | unrecognizedClass | sbzSbo | pcOperand | registerOverlap | sWithPc | savedStatus | emptyList
  | writebackBase | halfwordPw
  deriving DecidableEq, Repr

/-- The first reason whose test holds. Which reason stands first is a DESIGN CHOICE (log 8): no rule
depends on it (R543). -/
def firstReason : List (Bool × DecodeReason) → Option DecodeReason
  | [] => none
  | (bad, reason) :: rest => if bad then some reason else firstReason rest

/-- R186 and R283: a register-writing data-processing instruction with S = 1 and Rd = 15. -/
def dpError (sf : Bool) (rd : Reg) : Option DecodeReason :=
  firstReason [(sf && rd == 15, .sWithPc)]

/-- R186 and R282: the register-shift form with S = 1 and Rd = 15, or any register that is R15. -/
def dpShiftRegError (sf : Bool) (rd rn : Reg) (op : ShiftReg) : Option DecodeReason :=
  firstReason [(sf && rd == 15, .sWithPc),
    (rd == 15 || rn == 15 || op.rm == 15 || op.rs == 15, .pcOperand)]

/-- R186 and R330: MUL (with `rn` = 0) and MLA. -/
def mulError (rd rn rs rm : Reg) : Option DecodeReason :=
  firstReason [(rd == 15 || rn == 15 || rs == 15 || rm == 15, .pcOperand), (rd == rm, .registerOverlap)]

/-- R186 and R330: the long multiplies. -/
def mulLongError (rdHi rdLo rs rm : Reg) : Option DecodeReason :=
  firstReason [(rdHi == 15 || rdLo == 15 || rs == 15 || rm == 15, .pcOperand),
    (rdHi == rdLo || rdHi == rm || rdLo == rm, .registerOverlap)]

/-- R186 and R390: SWP and SWPB. -/
def swapError (rn rd rm : Reg) : Option DecodeReason :=
  firstReason [(rn == 15 || rd == 15 || rm == 15, .pcOperand), (rn == rm || rn == rd, .registerOverlap)]

/-- R186: the write-back restrictions shared by R363 and R372. -/
def writebackError (writeback : Bool) (rn rd : Reg) : Option DecodeReason :=
  firstReason [(writeback && (rn == 15 || rn == rd), .writebackBase)]

/-- R186 and R363: single transfers; `rm` is the offset register where there is one. -/
def singleError (byte writeback : Bool) (rn rd : Reg) (rm : Option Reg) : Option DecodeReason :=
  firstReason [(byte && rd == 15 || rm == some 15, .pcOperand)] <|> writebackError writeback rn rd

/-- R186 and R372: half-word transfers; `rm` is the offset register where there is one. -/
def halfError (pre wb : Bool) (rn rd : Reg) (rm : Option Reg) : Option DecodeReason :=
  firstReason [(!pre && wb, .halfwordPw), (rd == 15 || rm == some 15, .pcOperand)]
    <|> writebackError (wb || !pre) rn rd

/-- Register `i` is in the list (R171). -/
def inList (list : BitVec 16) (i : Reg) : Bool := list.getLsbD i.toNat

/-- Register `i` is the lowest-numbered register of the list: no register below it is in the list. -/
def isLowest (list : BitVec 16) (i : Reg) : Bool :=
  inList list i && (List.range i.toNat).all (fun j => !list.getLsbD j)

/-- R186 and R380: what LDM and STM refuse alike. -/
def blockError (rn : Reg) (list : BitVec 16) : Option DecodeReason :=
  firstReason [(list == 0, .emptyList), (rn == 15, .pcOperand)]

/-- R186 and R380: LDM, whose list may not hold a written-back base. -/
def ldmError (wb : Bool) (rn : Reg) (list : BitVec 16) : Option DecodeReason :=
  blockError rn list <|> firstReason [(wb && inList list rn, .writebackBase)]

/-- R186 and R380: STM, whose list may hold a written-back base only as its lowest register. -/
def stmError (wb : Bool) (rn : Reg) (list : BitVec 16) : Option DecodeReason :=
  blockError rn list <|> firstReason [(wb && inList list rn && !isLowest list rn, .writebackBase)]

/-- R186: why an instruction's operands are refused, if they are. Every N8 instruction is admitted with every
operand (R42, R206). -/
def Instr.encodingError : Instr → Option DecodeReason
  | .b _ _ => none
  | .bl _ _ => none
  | .bx _ _ => none
  | .andImm _ sf _ rd _ => dpError sf rd
  | .andShift _ sf _ rd _ => dpError sf rd
  | .andShiftReg _ sf rn rd op => dpShiftRegError sf rd rn op
  | .eorImm _ sf _ rd _ => dpError sf rd
  | .eorShift _ sf _ rd _ => dpError sf rd
  | .eorShiftReg _ sf rn rd op => dpShiftRegError sf rd rn op
  | .subImm _ sf _ rd _ => dpError sf rd
  | .subShift _ sf _ rd _ => dpError sf rd
  | .subShiftReg _ sf rn rd op => dpShiftRegError sf rd rn op
  | .rsbImm _ sf _ rd _ => dpError sf rd
  | .rsbShift _ sf _ rd _ => dpError sf rd
  | .rsbShiftReg _ sf rn rd op => dpShiftRegError sf rd rn op
  | .addImm _ sf _ rd _ => dpError sf rd
  | .addShift _ sf _ rd _ => dpError sf rd
  | .addShiftReg _ sf rn rd op => dpShiftRegError sf rd rn op
  | .adcImm _ sf _ rd _ => dpError sf rd
  | .adcShift _ sf _ rd _ => dpError sf rd
  | .adcShiftReg _ sf rn rd op => dpShiftRegError sf rd rn op
  | .sbcImm _ sf _ rd _ => dpError sf rd
  | .sbcShift _ sf _ rd _ => dpError sf rd
  | .sbcShiftReg _ sf rn rd op => dpShiftRegError sf rd rn op
  | .rscImm _ sf _ rd _ => dpError sf rd
  | .rscShift _ sf _ rd _ => dpError sf rd
  | .rscShiftReg _ sf rn rd op => dpShiftRegError sf rd rn op
  | .tstImm _ _ _ => none
  | .tstShift _ _ _ => none
  | .tstShiftReg _ rn op => dpShiftRegError false 0 rn op
  | .teqImm _ _ _ => none
  | .teqShift _ _ _ => none
  | .teqShiftReg _ rn op => dpShiftRegError false 0 rn op
  | .cmpImm _ _ _ => none
  | .cmpShift _ _ _ => none
  | .cmpShiftReg _ rn op => dpShiftRegError false 0 rn op
  | .cmnImm _ _ _ => none
  | .cmnShift _ _ _ => none
  | .cmnShiftReg _ rn op => dpShiftRegError false 0 rn op
  | .orrImm _ sf _ rd _ => dpError sf rd
  | .orrShift _ sf _ rd _ => dpError sf rd
  | .orrShiftReg _ sf rn rd op => dpShiftRegError sf rd rn op
  | .movImm _ sf rd _ => dpError sf rd
  | .movShift _ sf rd _ => dpError sf rd
  | .movShiftReg _ sf rd op => dpShiftRegError sf rd 0 op
  | .bicImm _ sf _ rd _ => dpError sf rd
  | .bicShift _ sf _ rd _ => dpError sf rd
  | .bicShiftReg _ sf rn rd op => dpShiftRegError sf rd rn op
  | .mvnImm _ sf rd _ => dpError sf rd
  | .mvnShift _ sf rd _ => dpError sf rd
  | .mvnShiftReg _ sf rd op => dpShiftRegError sf rd 0 op
  | .mrs _ rd => firstReason [(rd == 15, .pcOperand)]
  | .msrReg _ _ rm => firstReason [(rm == 15, .pcOperand)]
  | .msrImm _ _ _ => none
  | .mul _ _ rd rs rm => mulError rd 0 rs rm
  | .mla _ _ rd rn rs rm => mulError rd rn rs rm
  | .umull _ _ rdHi rdLo rs rm => mulLongError rdHi rdLo rs rm
  | .umlal _ _ rdHi rdLo rs rm => mulLongError rdHi rdLo rs rm
  | .smull _ _ rdHi rdLo rs rm => mulLongError rdHi rdLo rs rm
  | .smlal _ _ rdHi rdLo rs rm => mulLongError rdHi rdLo rs rm
  | .swp _ rn rd rm => swapError rn rd rm
  | .swpb _ rn rd rm => swapError rn rd rm
  | .ldrImmPre _ _ wb rn rd _ => singleError false wb rn rd none
  | .ldrImmPost _ _ rn rd _ => singleError false true rn rd none
  | .ldrRegPre _ _ wb rn rd op => singleError false wb rn rd (some op.rm)
  | .ldrRegPost _ _ rn rd op => singleError false true rn rd (some op.rm)
  | .ldrtImm _ _ rn rd _ => singleError false true rn rd none
  | .ldrtReg _ _ rn rd op => singleError false true rn rd (some op.rm)
  | .ldrbImmPre _ _ wb rn rd _ => singleError true wb rn rd none
  | .ldrbImmPost _ _ rn rd _ => singleError true true rn rd none
  | .ldrbRegPre _ _ wb rn rd op => singleError true wb rn rd (some op.rm)
  | .ldrbRegPost _ _ rn rd op => singleError true true rn rd (some op.rm)
  | .ldrbtImm _ _ rn rd _ => singleError true true rn rd none
  | .ldrbtReg _ _ rn rd op => singleError true true rn rd (some op.rm)
  | .strImmPre _ _ wb rn rd _ => singleError false wb rn rd none
  | .strImmPost _ _ rn rd _ => singleError false true rn rd none
  | .strRegPre _ _ wb rn rd op => singleError false wb rn rd (some op.rm)
  | .strRegPost _ _ rn rd op => singleError false true rn rd (some op.rm)
  | .strtImm _ _ rn rd _ => singleError false true rn rd none
  | .strtReg _ _ rn rd op => singleError false true rn rd (some op.rm)
  | .strbImmPre _ _ wb rn rd _ => singleError true wb rn rd none
  | .strbImmPost _ _ rn rd _ => singleError true true rn rd none
  | .strbRegPre _ _ wb rn rd op => singleError true wb rn rd (some op.rm)
  | .strbRegPost _ _ rn rd op => singleError true true rn rd (some op.rm)
  | .strbtImm _ _ rn rd _ => singleError true true rn rd none
  | .strbtReg _ _ rn rd op => singleError true true rn rd (some op.rm)
  | .ldrhImm _ pre _ wb rn rd _ => halfError pre wb rn rd none
  | .ldrhReg _ pre _ wb rn rd rm => halfError pre wb rn rd (some rm)
  | .strhImm _ pre _ wb rn rd _ => halfError pre wb rn rd none
  | .strhReg _ pre _ wb rn rd rm => halfError pre wb rn rd (some rm)
  | .ldrsbImm _ pre _ wb rn rd _ => halfError pre wb rn rd none
  | .ldrsbReg _ pre _ wb rn rd rm => halfError pre wb rn rd (some rm)
  | .ldrshImm _ pre _ wb rn rd _ => halfError pre wb rn rd none
  | .ldrshReg _ pre _ wb rn rd rm => halfError pre wb rn rd (some rm)
  | .ldmda _ wb rn list => ldmError wb rn list
  | .ldmia _ wb rn list => ldmError wb rn list
  | .ldmdb _ wb rn list => ldmError wb rn list
  | .ldmib _ wb rn list => ldmError wb rn list
  | .stmda _ wb rn list => stmError wb rn list
  | .stmia _ wb rn list => stmError wb rn list
  | .stmdb _ wb rn list => stmError wb rn list
  | .stmib _ wb rn list => stmError wb rn list
  | _ => none

/-- An instruction is well-formed when R186 does not refuse its operands. -/
def wellFormed (i : Instr) : Bool := i.encodingError.isNone

end Sys2Proof
end

