-- ==== Sys2Proof/Decode.lean ====
section
/-! DEFINITION. Decoding (30_encoding.md R160 to R207): the A32 decode tree and its field extraction, the
SBZ and SBO check of R185, the N8 dispatch tables of R204 and R205, a decoder total on any bytes, and after
them the encoder, written from the formats of R171. -/

namespace Sys2Proof

/-! ## Fields -/

/-- The field of `len` bits of a word whose lowest bit is `lo` (R17). -/
def fld (lo len : Nat) (w : Word) : BitVec len := w.extractLsb' lo len

/-- A field value placed in a word with its lowest bit at `lo`, zero elsewhere. -/
def put {n : Nat} (lo : Nat) (v : BitVec n) : Word := v.setWidth 32 <<< lo

/-- A 16-bit value of its high and low byte (R202). -/
def half (hi lo : Byte) : Half := hi ++ lo

/-- The low byte of a 16-bit value. -/
def loByte (v : Half) : Byte := v.extractLsb' 0 8

/-- The high byte of a 16-bit value. -/
def hiByte (v : Half) : Byte := v.extractLsb' 8 8

/-- The value of bytes in ascending address order, as the Bus composes it (R103, R122). -/
def littleEndian : List Byte → Word
  | [] => 0
  | b :: rest => b.setWidth 32 ||| (littleEndian rest <<< 8)

/-- The lowest `n` bytes of a word in ascending address order (R104, R122). -/
def bytesOf (n : Nat) (w : Word) : List Byte := (List.range n).map (fun i => fld (8 * i) 8 w)

/-- Condition of a code (R161). -/
def Cond.ofCode (code : BitVec 4) : Cond :=
  match code.toNat with
  | 0 => .eq
  | 1 => .ne
  | 2 => .cs
  | 3 => .cc
  | 4 => .mi
  | 5 => .pl
  | 6 => .vs
  | 7 => .vc
  | 8 => .hi
  | 9 => .ls
  | 10 => .ge
  | 11 => .lt
  | 12 => .gt
  | 13 => .le
  | 14 => .al
  | _ => .unknown

/-- Code of a condition (R161). -/
def Cond.code : Cond → BitVec 4
  | .eq => 0
  | .ne => 1
  | .cs => 2
  | .cc => 3
  | .mi => 4
  | .pl => 5
  | .vs => 6
  | .vc => 7
  | .hi => 8
  | .ls => 9
  | .ge => 10
  | .lt => 11
  | .gt => 12
  | .le => 13
  | .al => 14
  | .unknown => 15

/-- The shift of a `shift` field (R171). -/
def ShiftKind.ofCode (code : BitVec 2) : ShiftKind :=
  match code.toNat with
  | 0 => .lsl
  | 1 => .lsr
  | 2 => .asr
  | _ => .ror

/-- The `shift` field of a shift (R171). -/
def ShiftKind.code : ShiftKind → BitVec 2
  | .lsl => 0
  | .lsr => 1
  | .asr => 2
  | .ror => 3

/-- The operation of an `opcode` field (R171). -/
def DpOp.ofCode (code : BitVec 4) : DpOp :=
  match code.toNat with
  | 0 => .and
  | 1 => .eor
  | 2 => .sub
  | 3 => .rsb
  | 4 => .add
  | 5 => .adc
  | 6 => .sbc
  | 7 => .rsc
  | 8 => .tst
  | 9 => .teq
  | 10 => .cmp
  | 11 => .cmn
  | 12 => .orr
  | 13 => .mov
  | 14 => .bic
  | _ => .mvn

/-- The `opcode` field of an operation (R171). -/
def DpOp.code : DpOp → BitVec 4
  | .and => 0
  | .eor => 1
  | .sub => 2
  | .rsb => 3
  | .add => 4
  | .adc => 5
  | .sbc => 6
  | .rsc => 7
  | .tst => 8
  | .teq => 9
  | .cmp => 10
  | .cmn => 11
  | .orr => 12
  | .mov => 13
  | .bic => 14
  | .mvn => 15

/-- TST, TEQ, CMP and CMN: always S = 1, no register written (R283). -/
def DpOp.isCompare : DpOp → Bool
  | .tst | .teq | .cmp | .cmn => true
  | _ => false

/-- MOV and MVN: no first operand, Rn SBZ (R185). -/
def DpOp.isMove : DpOp → Bool
  | .mov | .mvn => true
  | _ => false

/-! ## A32: the decode tree -/

/-- The classes of R170. -/
inductive Class where
  | multiply | multiplyLong | swap | halfwordTransfer | mrs | msrReg | bx | dataProcessing | msrImm
  | singleTransfer | blockTransfer | branch | unrecognized
  deriving DecidableEq, Repr

/-- R170: the multiply and swap space, and the extra load and store space (bits 7 and 4 both 1). -/
def classExtra (w : Word) : Class :=
  if fld 5 2 w = 0b00 then
    if fld 22 3 w = 0b000 then .multiply
    else if fld 23 2 w = 0b01 then .multiplyLong
    else if fld 23 2 w = 0b10 ∧ fld 20 2 w = 0b00 then .swap
    else .unrecognized
  else if fld 20 1 w = 0 ∧ fld 5 2 w ≠ 0b01 then .unrecognized
  else .halfwordTransfer

/-- R170: the miscellaneous space. -/
def classMisc (w : Word) : Class :=
  if fld 4 4 w = 0b0000 ∧ fld 21 1 w = 0 then .mrs
  else if fld 4 4 w = 0b0000 ∧ fld 21 1 w = 1 then .msrReg
  else if fld 4 4 w = 0b0001 ∧ fld 21 2 w = 0b01 then .bx
  else .unrecognized

/-- R170: the class of a word. -/
def classOf (w : Word) : Class :=
  match (fld 25 3 w).toNat with
  | 0b000 =>
    if fld 7 1 w = 1 ∧ fld 4 1 w = 1 then classExtra w
    else if fld 23 2 w = 0b10 ∧ fld 20 1 w = 0 then classMisc w
    else .dataProcessing
  | 0b001 =>
    if fld 23 2 w = 0b10 ∧ fld 20 1 w = 0 then
      if fld 21 1 w = 1 then .msrImm else .unrecognized
    else .dataProcessing
  | 0b010 => .singleTransfer
  | 0b011 => if fld 4 1 w = 1 then .unrecognized else .singleTransfer
  | 0b100 => .blockTransfer
  | 0b101 => .branch
  | _ => .unrecognized

/-! ## A32: fields -/

/-- `cond = instr[31:28]` (R161). -/
def condOf (w : Word) : Cond := .ofCode (fld 28 4 w)

/-- The one-bit field at `i`, as a Boolean. -/
def flag (i : Nat) (w : Word) : Bool := fld i 1 w == 1

/-- `rotate` and `imm8` (R171). -/
def rotImmOf (w : Word) : RotImm := ⟨fld 8 4 w, fld 0 8 w⟩

/-- `shift_imm`, `shift` and `Rm` (R171). -/
def shiftImmOf (w : Word) : ShiftImm := ⟨.ofCode (fld 5 2 w), fld 7 5 w, fld 0 4 w⟩

/-- `Rs`, `shift` and `Rm` (R171). -/
def shiftRegOf (w : Word) : ShiftReg := ⟨.ofCode (fld 5 2 w), fld 8 4 w, fld 0 4 w⟩

/-- The data-processing instruction of an operation, immediate form. -/
def dpImm (cond : Cond) (sf : Bool) (rn rd : Reg) (op : RotImm) : DpOp → Instr
  | .and => .andImm cond sf rn rd op
  | .eor => .eorImm cond sf rn rd op
  | .sub => .subImm cond sf rn rd op
  | .rsb => .rsbImm cond sf rn rd op
  | .add => .addImm cond sf rn rd op
  | .adc => .adcImm cond sf rn rd op
  | .sbc => .sbcImm cond sf rn rd op
  | .rsc => .rscImm cond sf rn rd op
  | .tst => .tstImm cond rn op
  | .teq => .teqImm cond rn op
  | .cmp => .cmpImm cond rn op
  | .cmn => .cmnImm cond rn op
  | .orr => .orrImm cond sf rn rd op
  | .mov => .movImm cond sf rd op
  | .bic => .bicImm cond sf rn rd op
  | .mvn => .mvnImm cond sf rd op

/-- The data-processing instruction of an operation, immediate-shift form. -/
def dpShift (cond : Cond) (sf : Bool) (rn rd : Reg) (op : ShiftImm) : DpOp → Instr
  | .and => .andShift cond sf rn rd op
  | .eor => .eorShift cond sf rn rd op
  | .sub => .subShift cond sf rn rd op
  | .rsb => .rsbShift cond sf rn rd op
  | .add => .addShift cond sf rn rd op
  | .adc => .adcShift cond sf rn rd op
  | .sbc => .sbcShift cond sf rn rd op
  | .rsc => .rscShift cond sf rn rd op
  | .tst => .tstShift cond rn op
  | .teq => .teqShift cond rn op
  | .cmp => .cmpShift cond rn op
  | .cmn => .cmnShift cond rn op
  | .orr => .orrShift cond sf rn rd op
  | .mov => .movShift cond sf rd op
  | .bic => .bicShift cond sf rn rd op
  | .mvn => .mvnShift cond sf rd op

/-- The data-processing instruction of an operation, register-shift form. -/
def dpShiftReg (cond : Cond) (sf : Bool) (rn rd : Reg) (op : ShiftReg) : DpOp → Instr
  | .and => .andShiftReg cond sf rn rd op
  | .eor => .eorShiftReg cond sf rn rd op
  | .sub => .subShiftReg cond sf rn rd op
  | .rsb => .rsbShiftReg cond sf rn rd op
  | .add => .addShiftReg cond sf rn rd op
  | .adc => .adcShiftReg cond sf rn rd op
  | .sbc => .sbcShiftReg cond sf rn rd op
  | .rsc => .rscShiftReg cond sf rn rd op
  | .tst => .tstShiftReg cond rn op
  | .teq => .teqShiftReg cond rn op
  | .cmp => .cmpShiftReg cond rn op
  | .cmn => .cmnShiftReg cond rn op
  | .orr => .orrShiftReg cond sf rn rd op
  | .mov => .movShiftReg cond sf rd op
  | .bic => .bicShiftReg cond sf rn rd op
  | .mvn => .mvnShiftReg cond sf rd op

/-- Format DP (R171). -/
def decodeDataProcessing (w : Word) : Instr :=
  let op := DpOp.ofCode (fld 21 4 w)
  if flag 25 w then dpImm (condOf w) (flag 20 w) (fld 16 4 w) (fld 12 4 w) (rotImmOf w) op
  else if flag 4 w then dpShiftReg (condOf w) (flag 20 w) (fld 16 4 w) (fld 12 4 w) (shiftRegOf w) op
  else dpShift (condOf w) (flag 20 w) (fld 16 4 w) (fld 12 4 w) (shiftImmOf w) op

/-- Format M (R171): MLA when A = 1. -/
def decodeMultiply (w : Word) : Instr :=
  if flag 21 w then .mla (condOf w) (flag 20 w) (fld 16 4 w) (fld 12 4 w) (fld 8 4 w) (fld 0 4 w)
  else .mul (condOf w) (flag 20 w) (fld 16 4 w) (fld 8 4 w) (fld 0 4 w)

/-- Format ML (R171): U = 1 signed, A = 1 accumulate. -/
def decodeMultiplyLong (w : Word) : Instr :=
  let c := condOf w
  let sf := flag 20 w
  let rdHi : Reg := fld 16 4 w
  let rdLo : Reg := fld 12 4 w
  let rs : Reg := fld 8 4 w
  let rm : Reg := fld 0 4 w
  match flag 22 w, flag 21 w with
  | false, false => .umull c sf rdHi rdLo rs rm
  | false, true => .umlal c sf rdHi rdLo rs rm
  | true, false => .smull c sf rdHi rdLo rs rm
  | true, true => .smlal c sf rdHi rdLo rs rm

/-- Format SW (R171): SWPB when B = 1. -/
def decodeSwap (w : Word) : Instr :=
  if flag 22 w then .swpb (condOf w) (fld 16 4 w) (fld 12 4 w) (fld 0 4 w)
  else .swp (condOf w) (fld 16 4 w) (fld 12 4 w) (fld 0 4 w)

/-- Format LS with an immediate offset (R171): L, B, P and W choose the instruction; P = 0 with W = 1 is the T form. -/
def decodeSingleImm (w : Word) : Instr :=
  let c := condOf w
  let up := flag 23 w
  let rn : Reg := fld 16 4 w
  let rd : Reg := fld 12 4 w
  let op := fld 0 12 w
  match flag 20 w, flag 22 w, flag 24 w, flag 21 w with
  | false, false, true, wb => .strImmPre c up wb rn rd op
  | false, false, false, false => .strImmPost c up rn rd op
  | false, false, false, true => .strtImm c up rn rd op
  | false, true, true, wb => .strbImmPre c up wb rn rd op
  | false, true, false, false => .strbImmPost c up rn rd op
  | false, true, false, true => .strbtImm c up rn rd op
  | true, false, true, wb => .ldrImmPre c up wb rn rd op
  | true, false, false, false => .ldrImmPost c up rn rd op
  | true, false, false, true => .ldrtImm c up rn rd op
  | true, true, true, wb => .ldrbImmPre c up wb rn rd op
  | true, true, false, false => .ldrbImmPost c up rn rd op
  | true, true, false, true => .ldrbtImm c up rn rd op

/-- Format LS with a register offset (R171): L, B, P and W choose the instruction; P = 0 with W = 1 is the T form. -/
def decodeSingleReg (w : Word) : Instr :=
  let c := condOf w
  let up := flag 23 w
  let rn : Reg := fld 16 4 w
  let rd : Reg := fld 12 4 w
  let op := shiftImmOf w
  match flag 20 w, flag 22 w, flag 24 w, flag 21 w with
  | false, false, true, wb => .strRegPre c up wb rn rd op
  | false, false, false, false => .strRegPost c up rn rd op
  | false, false, false, true => .strtReg c up rn rd op
  | false, true, true, wb => .strbRegPre c up wb rn rd op
  | false, true, false, false => .strbRegPost c up rn rd op
  | false, true, false, true => .strbtReg c up rn rd op
  | true, false, true, wb => .ldrRegPre c up wb rn rd op
  | true, false, false, false => .ldrRegPost c up rn rd op
  | true, false, false, true => .ldrtReg c up rn rd op
  | true, true, true, wb => .ldrbRegPre c up wb rn rd op
  | true, true, false, false => .ldrbRegPost c up rn rd op
  | true, true, false, true => .ldrbtReg c up rn rd op

/-- Format LS (R171): I = 1 is a register offset. -/
def decodeSingle (w : Word) : Instr := if flag 25 w then decodeSingleReg w else decodeSingleImm w

/-- Format H (R171): L and S:H choose the instruction, I = 1 is an immediate offset. The pairs the class leaves out (a
store with S:H other than 0b01, and S:H = 0b00) do not reach the last arm. -/
def decodeHalfword (w : Word) : Instr :=
  let c := condOf w
  let p := flag 24 w
  let u := flag 23 w
  let wb := flag 21 w
  let rn : Reg := fld 16 4 w
  let rd : Reg := fld 12 4 w
  let imm : Byte := (fld 8 4 w : BitVec 4) ++ (fld 0 4 w : BitVec 4)
  let rm : Reg := fld 0 4 w
  match flag 20 w, (fld 5 2 w).toNat, flag 22 w with
  | false, _, true => .strhImm c p u wb rn rd imm
  | false, _, false => .strhReg c p u wb rn rd rm
  | true, 0b01, true => .ldrhImm c p u wb rn rd imm
  | true, 0b01, false => .ldrhReg c p u wb rn rd rm
  | true, 0b10, true => .ldrsbImm c p u wb rn rd imm
  | true, 0b10, false => .ldrsbReg c p u wb rn rd rm
  | true, _, true => .ldrshImm c p u wb rn rd imm
  | true, _, false => .ldrshReg c p u wb rn rd rm

/-- Format LM (R171): L, P and U choose the instruction (R381). -/
def decodeBlock (w : Word) : Instr :=
  let c := condOf w
  let wb := flag 21 w
  let rn : Reg := fld 16 4 w
  let list := fld 0 16 w
  match flag 20 w, flag 24 w, flag 23 w with
  | false, false, false => .stmda c wb rn list
  | false, false, true => .stmia c wb rn list
  | false, true, false => .stmdb c wb rn list
  | false, true, true => .stmib c wb rn list
  | true, false, false => .ldmda c wb rn list
  | true, false, true => .ldmia c wb rn list
  | true, true, false => .ldmdb c wb rn list
  | true, true, true => .ldmib c wb rn list

/-- The instruction a word's class and fields name; `none` for an unrecognized class (R170). -/
def decodeA32 (w : Word) : Option Instr :=
  match classOf w with
  | .multiply => some (decodeMultiply w)
  | .multiplyLong => some (decodeMultiplyLong w)
  | .swap => some (decodeSwap w)
  | .halfwordTransfer => some (decodeHalfword w)
  | .mrs => some (.mrs (condOf w) (fld 12 4 w))
  | .msrReg => some (.msrReg (condOf w) (fld 16 4 w) (fld 0 4 w))
  | .bx => some (.bx (condOf w) (fld 0 4 w))
  | .dataProcessing => some (decodeDataProcessing w)
  | .msrImm => some (.msrImm (condOf w) (fld 16 4 w) (rotImmOf w))
  | .singleTransfer => some (decodeSingle w)
  | .blockTransfer => some (decodeBlock w)
  | .branch => some (if flag 24 w then .bl (condOf w) (fld 0 24 w) else .b (condOf w) (fld 0 24 w))
  | .unrecognized => none

/-- The check of a word's fixed fields (R227): SBZ and SBO fields (R185), and the saved-status forms (R = 1 in
MRS and MSR, S = 1 in LDM and STM) of R186. The register combinations of R186 are `Instr.encodingError`. -/
def formatError (w : Word) : Option DecodeReason :=
  let op := DpOp.ofCode (fld 21 4 w)
  match classOf w with
  | .multiply => firstReason [(!flag 21 w && fld 12 4 w != 0, .sbzSbo)]
  | .swap => firstReason [(fld 8 4 w != 0, .sbzSbo)]
  | .halfwordTransfer => firstReason [(!flag 22 w && fld 8 4 w != 0, .sbzSbo)]
  | .mrs => firstReason [(flag 22 w, .savedStatus), (fld 16 4 w != 0xF || fld 0 12 w != 0, .sbzSbo)]
  | .msrReg => firstReason [(flag 22 w, .savedStatus), (fld 12 4 w != 0xF || fld 4 8 w != 0, .sbzSbo)]
  | .msrImm => firstReason [(flag 22 w, .savedStatus), (fld 12 4 w != 0xF, .sbzSbo)]
  | .bx => firstReason [(fld 8 12 w != 0xFFF, .sbzSbo)]
  | .dataProcessing =>
    firstReason [(op.isCompare && fld 12 4 w != 0 || op.isMove && fld 16 4 w != 0, .sbzSbo)]
  | .blockTransfer => firstReason [(flag 22 w, .savedStatus)]
  | .multiplyLong | .singleTransfer | .branch | .unrecognized => none

/-! ## N8: the dispatch tables -/

/-- An entry of the N8 dispatch table (R204): the instruction, or the function from its operand byte or
operand half-word to it (R202), or the second table (R205), or no entry (R206). -/
inductive N8Entry where
  | plain (i : Instr)
  | byte (f : Byte → Instr)
  | half (f : Half → Instr)
  | cbTable
  | absent

/-- Row 0x of R204. -/
def n8Row0 : List N8Entry :=
  [ .plain .nop, .half .ld_bc_d16, .plain .ld_mbc_a, .plain .inc_bc, .plain .inc_b, .plain .dec_b, .byte .ld_b_d8, .plain .rlca,
    .half .ld_ma16_sp, .plain .add_hl_bc, .plain .ld_a_mbc, .plain .dec_bc, .plain .inc_c, .plain .dec_c, .byte .ld_c_d8, .plain .rrca ]

/-- Row 1x of R204. -/
def n8Row1 : List N8Entry :=
  [ .absent, .half .ld_de_d16, .plain .ld_mde_a, .plain .inc_de, .plain .inc_d, .plain .dec_d, .byte .ld_d_d8, .plain .rla,
    .byte .jr_e8, .plain .add_hl_de, .plain .ld_a_mde, .plain .dec_de, .plain .inc_e, .plain .dec_e, .byte .ld_e_d8, .plain .rra ]

/-- Row 2x of R204. -/
def n8Row2 : List N8Entry :=
  [ .byte .jr_nz_e8, .half .ld_hl_d16, .plain .ld_mhli_a, .plain .inc_hl, .plain .inc_h, .plain .dec_h, .byte .ld_h_d8, .plain .daa,
    .byte .jr_z_e8, .plain .add_hl_hl, .plain .ld_a_mhli, .plain .dec_hl, .plain .inc_l, .plain .dec_l, .byte .ld_l_d8, .plain .cpl ]

/-- Row 3x of R204. -/
def n8Row3 : List N8Entry :=
  [ .byte .jr_nc_e8, .half .ld_sp_d16, .plain .ld_mhld_a, .plain .inc_sp, .plain .inc_mhl, .plain .dec_mhl, .byte .ld_mhl_d8, .plain .scf,
    .byte .jr_c_e8, .plain .add_hl_sp, .plain .ld_a_mhld, .plain .dec_sp, .plain .inc_a, .plain .dec_a, .byte .ld_a_d8, .plain .ccf ]

/-- Row 4x of R204. -/
def n8Row4 : List N8Entry :=
  [ .plain .ld_b_b, .plain .ld_b_c, .plain .ld_b_d, .plain .ld_b_e, .plain .ld_b_h, .plain .ld_b_l, .plain .ld_b_mhl, .plain .ld_b_a,
    .plain .ld_c_b, .plain .ld_c_c, .plain .ld_c_d, .plain .ld_c_e, .plain .ld_c_h, .plain .ld_c_l, .plain .ld_c_mhl, .plain .ld_c_a ]

/-- Row 5x of R204. -/
def n8Row5 : List N8Entry :=
  [ .plain .ld_d_b, .plain .ld_d_c, .plain .ld_d_d, .plain .ld_d_e, .plain .ld_d_h, .plain .ld_d_l, .plain .ld_d_mhl, .plain .ld_d_a,
    .plain .ld_e_b, .plain .ld_e_c, .plain .ld_e_d, .plain .ld_e_e, .plain .ld_e_h, .plain .ld_e_l, .plain .ld_e_mhl, .plain .ld_e_a ]

/-- Row 6x of R204. -/
def n8Row6 : List N8Entry :=
  [ .plain .ld_h_b, .plain .ld_h_c, .plain .ld_h_d, .plain .ld_h_e, .plain .ld_h_h, .plain .ld_h_l, .plain .ld_h_mhl, .plain .ld_h_a,
    .plain .ld_l_b, .plain .ld_l_c, .plain .ld_l_d, .plain .ld_l_e, .plain .ld_l_h, .plain .ld_l_l, .plain .ld_l_mhl, .plain .ld_l_a ]

/-- Row 7x of R204. -/
def n8Row7 : List N8Entry :=
  [ .plain .ld_mhl_b, .plain .ld_mhl_c, .plain .ld_mhl_d, .plain .ld_mhl_e, .plain .ld_mhl_h, .plain .ld_mhl_l, .plain .halt, .plain .ld_mhl_a,
    .plain .ld_a_b, .plain .ld_a_c, .plain .ld_a_d, .plain .ld_a_e, .plain .ld_a_h, .plain .ld_a_l, .plain .ld_a_mhl, .plain .ld_a_a ]

/-- Row 8x of R204. -/
def n8Row8 : List N8Entry :=
  [ .plain .add_a_b, .plain .add_a_c, .plain .add_a_d, .plain .add_a_e, .plain .add_a_h, .plain .add_a_l, .plain .add_a_mhl, .plain .add_a_a,
    .plain .adc_a_b, .plain .adc_a_c, .plain .adc_a_d, .plain .adc_a_e, .plain .adc_a_h, .plain .adc_a_l, .plain .adc_a_mhl, .plain .adc_a_a ]

/-- Row 9x of R204. -/
def n8Row9 : List N8Entry :=
  [ .plain .sub_b, .plain .sub_c, .plain .sub_d, .plain .sub_e, .plain .sub_h, .plain .sub_l, .plain .sub_mhl, .plain .sub_a,
    .plain .sbc_a_b, .plain .sbc_a_c, .plain .sbc_a_d, .plain .sbc_a_e, .plain .sbc_a_h, .plain .sbc_a_l, .plain .sbc_a_mhl, .plain .sbc_a_a ]

/-- Row Ax of R204. -/
def n8RowA : List N8Entry :=
  [ .plain .and_b, .plain .and_c, .plain .and_d, .plain .and_e, .plain .and_h, .plain .and_l, .plain .and_mhl, .plain .and_a,
    .plain .xor_b, .plain .xor_c, .plain .xor_d, .plain .xor_e, .plain .xor_h, .plain .xor_l, .plain .xor_mhl, .plain .xor_a ]

/-- Row Bx of R204. -/
def n8RowB : List N8Entry :=
  [ .plain .or_b, .plain .or_c, .plain .or_d, .plain .or_e, .plain .or_h, .plain .or_l, .plain .or_mhl, .plain .or_a,
    .plain .cp_b, .plain .cp_c, .plain .cp_d, .plain .cp_e, .plain .cp_h, .plain .cp_l, .plain .cp_mhl, .plain .cp_a ]

/-- Row Cx of R204. -/
def n8RowC : List N8Entry :=
  [ .plain .ret_nz, .plain .pop_bc, .half .jp_nz_a16, .half .jp_a16, .half .call_nz_a16, .plain .push_bc, .byte .add_a_d8, .plain .rst_00,
    .plain .ret_z, .plain .ret, .half .jp_z_a16, .cbTable, .half .call_z_a16, .half .call_a16, .byte .adc_a_d8, .plain .rst_08 ]

/-- Row Dx of R204. -/
def n8RowD : List N8Entry :=
  [ .plain .ret_nc, .plain .pop_de, .half .jp_nc_a16, .absent, .half .call_nc_a16, .plain .push_de, .byte .sub_d8, .plain .rst_10,
    .plain .ret_c, .absent, .half .jp_c_a16, .absent, .half .call_c_a16, .absent, .byte .sbc_a_d8, .plain .rst_18 ]

/-- Row Ex of R204. -/
def n8RowE : List N8Entry :=
  [ .byte .ldh_ma8_a, .plain .pop_hl, .plain .ld_mc_a, .absent, .absent, .plain .push_hl, .byte .and_d8, .plain .rst_20,
    .byte .add_sp_e8, .plain .jp_hl, .half .ld_ma16_a, .absent, .absent, .absent, .byte .xor_d8, .plain .rst_28 ]

/-- Row Fx of R204. -/
def n8RowF : List N8Entry :=
  [ .byte .ldh_a_ma8, .plain .pop_af, .plain .ld_a_mc, .absent, .absent, .plain .push_af, .byte .or_d8, .plain .rst_30,
    .byte .ld_hl_sp_e8, .plain .ld_sp_hl, .half .ld_a_ma16, .absent, .absent, .absent, .byte .cp_d8, .plain .rst_38 ]

/-- The dispatch table indexed by the opcode byte (R204). -/
def n8Table : List N8Entry :=
  n8Row0 ++ n8Row1 ++ n8Row2 ++ n8Row3 ++ n8Row4 ++ n8Row5 ++ n8Row6 ++ n8Row7
    ++ n8Row8 ++ n8Row9 ++ n8RowA ++ n8RowB ++ n8RowC ++ n8RowD ++ n8RowE ++ n8RowF

/-- `Table[op]` (R230). -/
def n8Entry (op : Byte) : N8Entry := n8Table.getD op.toNat .absent

/-- Prefixed opcodes 0x (R205). -/
def cbRow0 : List Instr :=
  [ .rlc_b, .rlc_c, .rlc_d, .rlc_e, .rlc_h, .rlc_l, .rlc_mhl, .rlc_a,
    .rrc_b, .rrc_c, .rrc_d, .rrc_e, .rrc_h, .rrc_l, .rrc_mhl, .rrc_a ]

/-- Prefixed opcodes 1x (R205). -/
def cbRow1 : List Instr :=
  [ .rl_b, .rl_c, .rl_d, .rl_e, .rl_h, .rl_l, .rl_mhl, .rl_a,
    .rr_b, .rr_c, .rr_d, .rr_e, .rr_h, .rr_l, .rr_mhl, .rr_a ]

/-- Prefixed opcodes 2x (R205). -/
def cbRow2 : List Instr :=
  [ .sla_b, .sla_c, .sla_d, .sla_e, .sla_h, .sla_l, .sla_mhl, .sla_a,
    .sra_b, .sra_c, .sra_d, .sra_e, .sra_h, .sra_l, .sra_mhl, .sra_a ]

/-- Prefixed opcodes 3x (R205). -/
def cbRow3 : List Instr :=
  [ .swap_b, .swap_c, .swap_d, .swap_e, .swap_h, .swap_l, .swap_mhl, .swap_a,
    .srl_b, .srl_c, .srl_d, .srl_e, .srl_h, .srl_l, .srl_mhl, .srl_a ]

/-- Prefixed opcodes 4x (R205). -/
def cbRow4 : List Instr :=
  [ .bit_0_b, .bit_0_c, .bit_0_d, .bit_0_e, .bit_0_h, .bit_0_l, .bit_0_mhl, .bit_0_a,
    .bit_1_b, .bit_1_c, .bit_1_d, .bit_1_e, .bit_1_h, .bit_1_l, .bit_1_mhl, .bit_1_a ]

/-- Prefixed opcodes 5x (R205). -/
def cbRow5 : List Instr :=
  [ .bit_2_b, .bit_2_c, .bit_2_d, .bit_2_e, .bit_2_h, .bit_2_l, .bit_2_mhl, .bit_2_a,
    .bit_3_b, .bit_3_c, .bit_3_d, .bit_3_e, .bit_3_h, .bit_3_l, .bit_3_mhl, .bit_3_a ]

/-- Prefixed opcodes 6x (R205). -/
def cbRow6 : List Instr :=
  [ .bit_4_b, .bit_4_c, .bit_4_d, .bit_4_e, .bit_4_h, .bit_4_l, .bit_4_mhl, .bit_4_a,
    .bit_5_b, .bit_5_c, .bit_5_d, .bit_5_e, .bit_5_h, .bit_5_l, .bit_5_mhl, .bit_5_a ]

/-- Prefixed opcodes 7x (R205). -/
def cbRow7 : List Instr :=
  [ .bit_6_b, .bit_6_c, .bit_6_d, .bit_6_e, .bit_6_h, .bit_6_l, .bit_6_mhl, .bit_6_a,
    .bit_7_b, .bit_7_c, .bit_7_d, .bit_7_e, .bit_7_h, .bit_7_l, .bit_7_mhl, .bit_7_a ]

/-- Prefixed opcodes 8x (R205). -/
def cbRow8 : List Instr :=
  [ .res_0_b, .res_0_c, .res_0_d, .res_0_e, .res_0_h, .res_0_l, .res_0_mhl, .res_0_a,
    .res_1_b, .res_1_c, .res_1_d, .res_1_e, .res_1_h, .res_1_l, .res_1_mhl, .res_1_a ]

/-- Prefixed opcodes 9x (R205). -/
def cbRow9 : List Instr :=
  [ .res_2_b, .res_2_c, .res_2_d, .res_2_e, .res_2_h, .res_2_l, .res_2_mhl, .res_2_a,
    .res_3_b, .res_3_c, .res_3_d, .res_3_e, .res_3_h, .res_3_l, .res_3_mhl, .res_3_a ]

/-- Prefixed opcodes Ax (R205). -/
def cbRowA : List Instr :=
  [ .res_4_b, .res_4_c, .res_4_d, .res_4_e, .res_4_h, .res_4_l, .res_4_mhl, .res_4_a,
    .res_5_b, .res_5_c, .res_5_d, .res_5_e, .res_5_h, .res_5_l, .res_5_mhl, .res_5_a ]

/-- Prefixed opcodes Bx (R205). -/
def cbRowB : List Instr :=
  [ .res_6_b, .res_6_c, .res_6_d, .res_6_e, .res_6_h, .res_6_l, .res_6_mhl, .res_6_a,
    .res_7_b, .res_7_c, .res_7_d, .res_7_e, .res_7_h, .res_7_l, .res_7_mhl, .res_7_a ]

/-- Prefixed opcodes Cx (R205). -/
def cbRowC : List Instr :=
  [ .set_0_b, .set_0_c, .set_0_d, .set_0_e, .set_0_h, .set_0_l, .set_0_mhl, .set_0_a,
    .set_1_b, .set_1_c, .set_1_d, .set_1_e, .set_1_h, .set_1_l, .set_1_mhl, .set_1_a ]

/-- Prefixed opcodes Dx (R205). -/
def cbRowD : List Instr :=
  [ .set_2_b, .set_2_c, .set_2_d, .set_2_e, .set_2_h, .set_2_l, .set_2_mhl, .set_2_a,
    .set_3_b, .set_3_c, .set_3_d, .set_3_e, .set_3_h, .set_3_l, .set_3_mhl, .set_3_a ]

/-- Prefixed opcodes Ex (R205). -/
def cbRowE : List Instr :=
  [ .set_4_b, .set_4_c, .set_4_d, .set_4_e, .set_4_h, .set_4_l, .set_4_mhl, .set_4_a,
    .set_5_b, .set_5_c, .set_5_d, .set_5_e, .set_5_h, .set_5_l, .set_5_mhl, .set_5_a ]

/-- Prefixed opcodes Fx (R205). -/
def cbRowF : List Instr :=
  [ .set_6_b, .set_6_c, .set_6_d, .set_6_e, .set_6_h, .set_6_l, .set_6_mhl, .set_6_a,
    .set_7_b, .set_7_c, .set_7_d, .set_7_e, .set_7_h, .set_7_l, .set_7_mhl, .set_7_a ]

/-- The second table, indexed by the byte after 0xCB (R205). -/
def cbTable : List Instr :=
  cbRow0 ++ cbRow1 ++ cbRow2 ++ cbRow3 ++ cbRow4 ++ cbRow5 ++ cbRow6 ++ cbRow7
    ++ cbRow8 ++ cbRow9 ++ cbRowA ++ cbRowB ++ cbRowC ++ cbRowD ++ cbRowE ++ cbRowF

/-- The prefixed instruction of `cb` (R205); the table is full, so the default is never taken. -/
def cbInstr (cb : Byte) : Instr := cbTable.getD cb.toNat .nop

/-- `Length(op)` (R203, R207); an opcode without an entry has none. -/
def n8Length (op : Byte) : Option Nat :=
  match n8Entry op with
  | .plain _ => some 1
  | .byte _ => some 2
  | .half _ => some 3
  | .cbTable => some 2
  | .absent => none

/-! ## The decoder -/

/-- Why bytes are not an instruction. -/
inductive Reject where
  /-- the bytes end before the instruction does -/
  | truncated
  /-- an N8 opcode with no table entry (R206) -/
  | unimplemented (opcode : Byte)
  /-- an A32 word of an unrecognized class, or one with a fixed field violated (R185, R187) -/
  | malformed (reason : DecodeReason)
  deriving DecidableEq, Repr

/-- Decode an A32 word, refusing by name (R170, R185). -/
def decodeWord (w : Word) : Except Reject Instr :=
  match decodeA32 w with
  | none => .error (.malformed .unrecognizedClass)
  | some i =>
    match formatError w with
    | some reason => .error (.malformed reason)
    | none => .ok i

/-- Decode N8 bytes (R230): the instruction and the bytes after it. -/
def decodeN8 : List Byte → Except Reject (Instr × List Byte)
  | [] => .error .truncated
  | op :: rest =>
    match n8Entry op, rest with
    | .plain i, rest => .ok (i, rest)
    | .byte f, b :: rest => .ok (f b, rest)
    | .half f, lo :: hi :: rest => .ok (f (half hi lo), rest)
    | .cbTable, cb :: rest => .ok (cbInstr cb, rest)
    | .absent, _ => .error (.unimplemented op)
    | _, _ => .error .truncated

/-- Decode the bytes at the program counter, in ascending address order: the instruction and the bytes after
it, or why they are refused. -/
def decode : Profile → List Byte → Except Reject (Instr × List Byte)
  | .a32, b0 :: b1 :: b2 :: b3 :: rest => (decodeWord (littleEndian [b0, b1, b2, b3])).map (fun i => (i, rest))
  | .a32, _ => .error .truncated
  | .n8, bytes => decodeN8 bytes

/-! ## The encoder -/

/-- The encoding of an instruction: a word of A32, or the bytes of N8 in ascending address order. -/
inductive Encoding where
  | word (w : Word)
  | bytes (l : List Byte)
  deriving DecidableEq, Repr

/-- One bit of a word. -/
def putBit (lo : Nat) (b : Bool) : Word := put lo (BitVec.ofBool b)

/-- `rotate` and `imm8` in place. -/
def RotImm.enc (o : RotImm) : Word := put 8 o.rot ||| put 0 o.imm

/-- `shift_imm`, `shift`, 0 and `Rm` in place. -/
def ShiftImm.enc (o : ShiftImm) : Word := put 7 o.amount ||| put 5 o.kind.code ||| put 0 o.rm

/-- `Rs`, 0, `shift`, 1 and `Rm` in place. -/
def ShiftReg.enc (o : ShiftReg) : Word := put 8 o.rs ||| put 5 o.kind.code ||| put 4 1#1 ||| put 0 o.rm

/-- Format DP (R171); `i` is bit 25, `operand` the bits 11:0. -/
def encDp (op : DpOp) (i : Bool) (cond : Cond) (sf : Bool) (rn rd : Reg) (operand : Word) : Word :=
  put 28 cond.code ||| putBit 25 i ||| put 21 op.code ||| putBit 20 sf ||| put 16 rn ||| put 12 rd ||| operand

/-- Format B (R171). -/
def encB (link : Bool) (cond : Cond) (offset24 : BitVec 24) : Word :=
  put 28 cond.code ||| put 25 0b101#3 ||| putBit 24 link ||| put 0 offset24

/-- Format BX (R171). -/
def encBx (cond : Cond) (rm : Reg) : Word :=
  put 28 cond.code ||| put 20 0b00010010#8 ||| put 8 0xFFF#12 ||| put 4 0b0001#4 ||| put 0 rm

/-- Format PSR, MRS with R = 0 (R171). -/
def encMrs (cond : Cond) (rd : Reg) : Word :=
  put 28 cond.code ||| put 23 0b00010#5 ||| put 16 0xF#4 ||| put 12 rd

/-- Format PSR, MSR with R = 0 (R171); `top` is bits 27:23, `operand` the bits 11:0. -/
def encMsr (top : BitVec 5) (cond : Cond) (mask : BitVec 4) (operand : Word) : Word :=
  put 28 cond.code ||| put 23 top ||| put 20 0b10#2 ||| put 16 mask ||| put 12 0xF#4 ||| operand

/-- Formats M and ML (R171); `top` is bits 27:21. -/
def encMul (top : BitVec 7) (cond : Cond) (sf : Bool) (r16 r12 rs rm : Reg) : Word :=
  put 28 cond.code ||| put 21 top ||| putBit 20 sf ||| put 16 r16 ||| put 12 r12 ||| put 8 rs
    ||| put 4 0b1001#4 ||| put 0 rm

/-- Format SW (R171). -/
def encSwap (byte : Bool) (cond : Cond) (rn rd rm : Reg) : Word :=
  put 28 cond.code ||| put 23 0b00010#5 ||| putBit 22 byte ||| put 16 rn ||| put 12 rd
    ||| put 4 0b1001#4 ||| put 0 rm

/-- Format LS (R171); `i` is bit 25, `operand` the bits 11:0. -/
def encSingle (i p byte w load : Bool) (cond : Cond) (up : Bool) (rn rd : Reg) (operand : Word) : Word :=
  put 28 cond.code ||| put 26 0b01#2 ||| putBit 25 i ||| putBit 24 p ||| putBit 23 up ||| putBit 22 byte
    ||| putBit 21 w ||| putBit 20 load ||| put 16 rn ||| put 12 rd ||| operand

/-- Format H (R171); `sh` is S:H, `operand` the bits 11:8 and 3:0. -/
def encHalf (i load : Bool) (sh : BitVec 2) (cond : Cond) (p u wb : Bool) (rn rd : Reg) (operand : Word) : Word :=
  put 28 cond.code ||| putBit 24 p ||| putBit 23 u ||| putBit 22 i ||| putBit 21 wb ||| putBit 20 load
    ||| put 16 rn ||| put 12 rd ||| put 7 1#1 ||| put 5 sh ||| put 4 1#1 ||| operand

/-- `offHi` and `offLo` of an immediate in place (R171). -/
def encImm8 (imm : Byte) : Word := put 8 (imm.extractLsb' 4 4) ||| put 0 (imm.extractLsb' 0 4)

/-- Format LM with S = 0 (R171). -/
def encBlock (load p u : Bool) (cond : Cond) (wb : Bool) (rn : Reg) (list : BitVec 16) : Word :=
  put 28 cond.code ||| put 25 0b100#3 ||| putBit 24 p ||| putBit 23 u ||| putBit 21 wb ||| putBit 20 load
    ||| put 16 rn ||| put 0 list

/-- The encoding of every instruction. -/
def Instr.encoding : Instr → Encoding
  | .b cond offset24 => .word (encB false cond offset24)
  | .bl cond offset24 => .word (encB true cond offset24)
  | .bx cond rm => .word (encBx cond rm)
  | .andImm cond sf rn rd op => .word (encDp .and true cond sf rn rd op.enc)
  | .andShift cond sf rn rd op => .word (encDp .and false cond sf rn rd op.enc)
  | .andShiftReg cond sf rn rd op => .word (encDp .and false cond sf rn rd op.enc)
  | .eorImm cond sf rn rd op => .word (encDp .eor true cond sf rn rd op.enc)
  | .eorShift cond sf rn rd op => .word (encDp .eor false cond sf rn rd op.enc)
  | .eorShiftReg cond sf rn rd op => .word (encDp .eor false cond sf rn rd op.enc)
  | .subImm cond sf rn rd op => .word (encDp .sub true cond sf rn rd op.enc)
  | .subShift cond sf rn rd op => .word (encDp .sub false cond sf rn rd op.enc)
  | .subShiftReg cond sf rn rd op => .word (encDp .sub false cond sf rn rd op.enc)
  | .rsbImm cond sf rn rd op => .word (encDp .rsb true cond sf rn rd op.enc)
  | .rsbShift cond sf rn rd op => .word (encDp .rsb false cond sf rn rd op.enc)
  | .rsbShiftReg cond sf rn rd op => .word (encDp .rsb false cond sf rn rd op.enc)
  | .addImm cond sf rn rd op => .word (encDp .add true cond sf rn rd op.enc)
  | .addShift cond sf rn rd op => .word (encDp .add false cond sf rn rd op.enc)
  | .addShiftReg cond sf rn rd op => .word (encDp .add false cond sf rn rd op.enc)
  | .adcImm cond sf rn rd op => .word (encDp .adc true cond sf rn rd op.enc)
  | .adcShift cond sf rn rd op => .word (encDp .adc false cond sf rn rd op.enc)
  | .adcShiftReg cond sf rn rd op => .word (encDp .adc false cond sf rn rd op.enc)
  | .sbcImm cond sf rn rd op => .word (encDp .sbc true cond sf rn rd op.enc)
  | .sbcShift cond sf rn rd op => .word (encDp .sbc false cond sf rn rd op.enc)
  | .sbcShiftReg cond sf rn rd op => .word (encDp .sbc false cond sf rn rd op.enc)
  | .rscImm cond sf rn rd op => .word (encDp .rsc true cond sf rn rd op.enc)
  | .rscShift cond sf rn rd op => .word (encDp .rsc false cond sf rn rd op.enc)
  | .rscShiftReg cond sf rn rd op => .word (encDp .rsc false cond sf rn rd op.enc)
  | .tstImm cond rn op => .word (encDp .tst true cond true rn 0 op.enc)
  | .tstShift cond rn op => .word (encDp .tst false cond true rn 0 op.enc)
  | .tstShiftReg cond rn op => .word (encDp .tst false cond true rn 0 op.enc)
  | .teqImm cond rn op => .word (encDp .teq true cond true rn 0 op.enc)
  | .teqShift cond rn op => .word (encDp .teq false cond true rn 0 op.enc)
  | .teqShiftReg cond rn op => .word (encDp .teq false cond true rn 0 op.enc)
  | .cmpImm cond rn op => .word (encDp .cmp true cond true rn 0 op.enc)
  | .cmpShift cond rn op => .word (encDp .cmp false cond true rn 0 op.enc)
  | .cmpShiftReg cond rn op => .word (encDp .cmp false cond true rn 0 op.enc)
  | .cmnImm cond rn op => .word (encDp .cmn true cond true rn 0 op.enc)
  | .cmnShift cond rn op => .word (encDp .cmn false cond true rn 0 op.enc)
  | .cmnShiftReg cond rn op => .word (encDp .cmn false cond true rn 0 op.enc)
  | .orrImm cond sf rn rd op => .word (encDp .orr true cond sf rn rd op.enc)
  | .orrShift cond sf rn rd op => .word (encDp .orr false cond sf rn rd op.enc)
  | .orrShiftReg cond sf rn rd op => .word (encDp .orr false cond sf rn rd op.enc)
  | .movImm cond sf rd op => .word (encDp .mov true cond sf 0 rd op.enc)
  | .movShift cond sf rd op => .word (encDp .mov false cond sf 0 rd op.enc)
  | .movShiftReg cond sf rd op => .word (encDp .mov false cond sf 0 rd op.enc)
  | .bicImm cond sf rn rd op => .word (encDp .bic true cond sf rn rd op.enc)
  | .bicShift cond sf rn rd op => .word (encDp .bic false cond sf rn rd op.enc)
  | .bicShiftReg cond sf rn rd op => .word (encDp .bic false cond sf rn rd op.enc)
  | .mvnImm cond sf rd op => .word (encDp .mvn true cond sf 0 rd op.enc)
  | .mvnShift cond sf rd op => .word (encDp .mvn false cond sf 0 rd op.enc)
  | .mvnShiftReg cond sf rd op => .word (encDp .mvn false cond sf 0 rd op.enc)
  | .mrs cond rd => .word (encMrs cond rd)
  | .msrReg cond mask rm => .word (encMsr 0b00010 cond mask (put 0 rm))
  | .msrImm cond mask op => .word (encMsr 0b00110 cond mask op.enc)
  | .mul cond sf rd rs rm => .word (encMul 0b0000000 cond sf rd 0 rs rm)
  | .mla cond sf rd rn rs rm => .word (encMul 0b0000001 cond sf rd rn rs rm)
  | .umull cond sf rdHi rdLo rs rm => .word (encMul 0b0000100 cond sf rdHi rdLo rs rm)
  | .umlal cond sf rdHi rdLo rs rm => .word (encMul 0b0000101 cond sf rdHi rdLo rs rm)
  | .smull cond sf rdHi rdLo rs rm => .word (encMul 0b0000110 cond sf rdHi rdLo rs rm)
  | .smlal cond sf rdHi rdLo rs rm => .word (encMul 0b0000111 cond sf rdHi rdLo rs rm)
  | .swp cond rn rd rm => .word (encSwap false cond rn rd rm)
  | .swpb cond rn rd rm => .word (encSwap true cond rn rd rm)
  | .ldrImmPre cond up wb rn rd imm12 => .word (encSingle false true false wb true cond up rn rd (put 0 imm12))
  | .ldrImmPost cond up rn rd imm12 => .word (encSingle false false false false true cond up rn rd (put 0 imm12))
  | .ldrRegPre cond up wb rn rd op => .word (encSingle true true false wb true cond up rn rd op.enc)
  | .ldrRegPost cond up rn rd op => .word (encSingle true false false false true cond up rn rd op.enc)
  | .ldrtImm cond up rn rd imm12 => .word (encSingle false false false true true cond up rn rd (put 0 imm12))
  | .ldrtReg cond up rn rd op => .word (encSingle true false false true true cond up rn rd op.enc)
  | .ldrbImmPre cond up wb rn rd imm12 => .word (encSingle false true true wb true cond up rn rd (put 0 imm12))
  | .ldrbImmPost cond up rn rd imm12 => .word (encSingle false false true false true cond up rn rd (put 0 imm12))
  | .ldrbRegPre cond up wb rn rd op => .word (encSingle true true true wb true cond up rn rd op.enc)
  | .ldrbRegPost cond up rn rd op => .word (encSingle true false true false true cond up rn rd op.enc)
  | .ldrbtImm cond up rn rd imm12 => .word (encSingle false false true true true cond up rn rd (put 0 imm12))
  | .ldrbtReg cond up rn rd op => .word (encSingle true false true true true cond up rn rd op.enc)
  | .strImmPre cond up wb rn rd imm12 => .word (encSingle false true false wb false cond up rn rd (put 0 imm12))
  | .strImmPost cond up rn rd imm12 => .word (encSingle false false false false false cond up rn rd (put 0 imm12))
  | .strRegPre cond up wb rn rd op => .word (encSingle true true false wb false cond up rn rd op.enc)
  | .strRegPost cond up rn rd op => .word (encSingle true false false false false cond up rn rd op.enc)
  | .strtImm cond up rn rd imm12 => .word (encSingle false false false true false cond up rn rd (put 0 imm12))
  | .strtReg cond up rn rd op => .word (encSingle true false false true false cond up rn rd op.enc)
  | .strbImmPre cond up wb rn rd imm12 => .word (encSingle false true true wb false cond up rn rd (put 0 imm12))
  | .strbImmPost cond up rn rd imm12 => .word (encSingle false false true false false cond up rn rd (put 0 imm12))
  | .strbRegPre cond up wb rn rd op => .word (encSingle true true true wb false cond up rn rd op.enc)
  | .strbRegPost cond up rn rd op => .word (encSingle true false true false false cond up rn rd op.enc)
  | .strbtImm cond up rn rd imm12 => .word (encSingle false false true true false cond up rn rd (put 0 imm12))
  | .strbtReg cond up rn rd op => .word (encSingle true false true true false cond up rn rd op.enc)
  | .ldrhImm cond pre up wb rn rd imm8 => .word (encHalf true true 0b01 cond pre up wb rn rd (encImm8 imm8))
  | .ldrhReg cond pre up wb rn rd rm => .word (encHalf false true 0b01 cond pre up wb rn rd (put 0 rm))
  | .strhImm cond pre up wb rn rd imm8 => .word (encHalf true false 0b01 cond pre up wb rn rd (encImm8 imm8))
  | .strhReg cond pre up wb rn rd rm => .word (encHalf false false 0b01 cond pre up wb rn rd (put 0 rm))
  | .ldrsbImm cond pre up wb rn rd imm8 => .word (encHalf true true 0b10 cond pre up wb rn rd (encImm8 imm8))
  | .ldrsbReg cond pre up wb rn rd rm => .word (encHalf false true 0b10 cond pre up wb rn rd (put 0 rm))
  | .ldrshImm cond pre up wb rn rd imm8 => .word (encHalf true true 0b11 cond pre up wb rn rd (encImm8 imm8))
  | .ldrshReg cond pre up wb rn rd rm => .word (encHalf false true 0b11 cond pre up wb rn rd (put 0 rm))
  | .ldmda cond wb rn list => .word (encBlock true false false cond wb rn list)
  | .ldmia cond wb rn list => .word (encBlock true false true cond wb rn list)
  | .ldmdb cond wb rn list => .word (encBlock true true false cond wb rn list)
  | .ldmib cond wb rn list => .word (encBlock true true true cond wb rn list)
  | .stmda cond wb rn list => .word (encBlock false false false cond wb rn list)
  | .stmia cond wb rn list => .word (encBlock false false true cond wb rn list)
  | .stmdb cond wb rn list => .word (encBlock false true false cond wb rn list)
  | .stmib cond wb rn list => .word (encBlock false true true cond wb rn list)
  | .nop => .bytes [0x00]
  | .ld_bc_d16 d16 => .bytes [0x01, loByte d16, hiByte d16]
  | .ld_mbc_a => .bytes [0x02]
  | .inc_bc => .bytes [0x03]
  | .inc_b => .bytes [0x04]
  | .dec_b => .bytes [0x05]
  | .ld_b_d8 d8 => .bytes [0x06, d8]
  | .rlca => .bytes [0x07]
  | .ld_ma16_sp a16 => .bytes [0x08, loByte a16, hiByte a16]
  | .add_hl_bc => .bytes [0x09]
  | .ld_a_mbc => .bytes [0x0A]
  | .dec_bc => .bytes [0x0B]
  | .inc_c => .bytes [0x0C]
  | .dec_c => .bytes [0x0D]
  | .ld_c_d8 d8 => .bytes [0x0E, d8]
  | .rrca => .bytes [0x0F]
  | .ld_de_d16 d16 => .bytes [0x11, loByte d16, hiByte d16]
  | .ld_mde_a => .bytes [0x12]
  | .inc_de => .bytes [0x13]
  | .inc_d => .bytes [0x14]
  | .dec_d => .bytes [0x15]
  | .ld_d_d8 d8 => .bytes [0x16, d8]
  | .rla => .bytes [0x17]
  | .jr_e8 e8 => .bytes [0x18, e8]
  | .add_hl_de => .bytes [0x19]
  | .ld_a_mde => .bytes [0x1A]
  | .dec_de => .bytes [0x1B]
  | .inc_e => .bytes [0x1C]
  | .dec_e => .bytes [0x1D]
  | .ld_e_d8 d8 => .bytes [0x1E, d8]
  | .rra => .bytes [0x1F]
  | .jr_nz_e8 e8 => .bytes [0x20, e8]
  | .ld_hl_d16 d16 => .bytes [0x21, loByte d16, hiByte d16]
  | .ld_mhli_a => .bytes [0x22]
  | .inc_hl => .bytes [0x23]
  | .inc_h => .bytes [0x24]
  | .dec_h => .bytes [0x25]
  | .ld_h_d8 d8 => .bytes [0x26, d8]
  | .daa => .bytes [0x27]
  | .jr_z_e8 e8 => .bytes [0x28, e8]
  | .add_hl_hl => .bytes [0x29]
  | .ld_a_mhli => .bytes [0x2A]
  | .dec_hl => .bytes [0x2B]
  | .inc_l => .bytes [0x2C]
  | .dec_l => .bytes [0x2D]
  | .ld_l_d8 d8 => .bytes [0x2E, d8]
  | .cpl => .bytes [0x2F]
  | .jr_nc_e8 e8 => .bytes [0x30, e8]
  | .ld_sp_d16 d16 => .bytes [0x31, loByte d16, hiByte d16]
  | .ld_mhld_a => .bytes [0x32]
  | .inc_sp => .bytes [0x33]
  | .inc_mhl => .bytes [0x34]
  | .dec_mhl => .bytes [0x35]
  | .ld_mhl_d8 d8 => .bytes [0x36, d8]
  | .scf => .bytes [0x37]
  | .jr_c_e8 e8 => .bytes [0x38, e8]
  | .add_hl_sp => .bytes [0x39]
  | .ld_a_mhld => .bytes [0x3A]
  | .dec_sp => .bytes [0x3B]
  | .inc_a => .bytes [0x3C]
  | .dec_a => .bytes [0x3D]
  | .ld_a_d8 d8 => .bytes [0x3E, d8]
  | .ccf => .bytes [0x3F]
  | .ld_b_b => .bytes [0x40]
  | .ld_b_c => .bytes [0x41]
  | .ld_b_d => .bytes [0x42]
  | .ld_b_e => .bytes [0x43]
  | .ld_b_h => .bytes [0x44]
  | .ld_b_l => .bytes [0x45]
  | .ld_b_mhl => .bytes [0x46]
  | .ld_b_a => .bytes [0x47]
  | .ld_c_b => .bytes [0x48]
  | .ld_c_c => .bytes [0x49]
  | .ld_c_d => .bytes [0x4A]
  | .ld_c_e => .bytes [0x4B]
  | .ld_c_h => .bytes [0x4C]
  | .ld_c_l => .bytes [0x4D]
  | .ld_c_mhl => .bytes [0x4E]
  | .ld_c_a => .bytes [0x4F]
  | .ld_d_b => .bytes [0x50]
  | .ld_d_c => .bytes [0x51]
  | .ld_d_d => .bytes [0x52]
  | .ld_d_e => .bytes [0x53]
  | .ld_d_h => .bytes [0x54]
  | .ld_d_l => .bytes [0x55]
  | .ld_d_mhl => .bytes [0x56]
  | .ld_d_a => .bytes [0x57]
  | .ld_e_b => .bytes [0x58]
  | .ld_e_c => .bytes [0x59]
  | .ld_e_d => .bytes [0x5A]
  | .ld_e_e => .bytes [0x5B]
  | .ld_e_h => .bytes [0x5C]
  | .ld_e_l => .bytes [0x5D]
  | .ld_e_mhl => .bytes [0x5E]
  | .ld_e_a => .bytes [0x5F]
  | .ld_h_b => .bytes [0x60]
  | .ld_h_c => .bytes [0x61]
  | .ld_h_d => .bytes [0x62]
  | .ld_h_e => .bytes [0x63]
  | .ld_h_h => .bytes [0x64]
  | .ld_h_l => .bytes [0x65]
  | .ld_h_mhl => .bytes [0x66]
  | .ld_h_a => .bytes [0x67]
  | .ld_l_b => .bytes [0x68]
  | .ld_l_c => .bytes [0x69]
  | .ld_l_d => .bytes [0x6A]
  | .ld_l_e => .bytes [0x6B]
  | .ld_l_h => .bytes [0x6C]
  | .ld_l_l => .bytes [0x6D]
  | .ld_l_mhl => .bytes [0x6E]
  | .ld_l_a => .bytes [0x6F]
  | .ld_mhl_b => .bytes [0x70]
  | .ld_mhl_c => .bytes [0x71]
  | .ld_mhl_d => .bytes [0x72]
  | .ld_mhl_e => .bytes [0x73]
  | .ld_mhl_h => .bytes [0x74]
  | .ld_mhl_l => .bytes [0x75]
  | .halt => .bytes [0x76]
  | .ld_mhl_a => .bytes [0x77]
  | .ld_a_b => .bytes [0x78]
  | .ld_a_c => .bytes [0x79]
  | .ld_a_d => .bytes [0x7A]
  | .ld_a_e => .bytes [0x7B]
  | .ld_a_h => .bytes [0x7C]
  | .ld_a_l => .bytes [0x7D]
  | .ld_a_mhl => .bytes [0x7E]
  | .ld_a_a => .bytes [0x7F]
  | .add_a_b => .bytes [0x80]
  | .add_a_c => .bytes [0x81]
  | .add_a_d => .bytes [0x82]
  | .add_a_e => .bytes [0x83]
  | .add_a_h => .bytes [0x84]
  | .add_a_l => .bytes [0x85]
  | .add_a_mhl => .bytes [0x86]
  | .add_a_a => .bytes [0x87]
  | .adc_a_b => .bytes [0x88]
  | .adc_a_c => .bytes [0x89]
  | .adc_a_d => .bytes [0x8A]
  | .adc_a_e => .bytes [0x8B]
  | .adc_a_h => .bytes [0x8C]
  | .adc_a_l => .bytes [0x8D]
  | .adc_a_mhl => .bytes [0x8E]
  | .adc_a_a => .bytes [0x8F]
  | .sub_b => .bytes [0x90]
  | .sub_c => .bytes [0x91]
  | .sub_d => .bytes [0x92]
  | .sub_e => .bytes [0x93]
  | .sub_h => .bytes [0x94]
  | .sub_l => .bytes [0x95]
  | .sub_mhl => .bytes [0x96]
  | .sub_a => .bytes [0x97]
  | .sbc_a_b => .bytes [0x98]
  | .sbc_a_c => .bytes [0x99]
  | .sbc_a_d => .bytes [0x9A]
  | .sbc_a_e => .bytes [0x9B]
  | .sbc_a_h => .bytes [0x9C]
  | .sbc_a_l => .bytes [0x9D]
  | .sbc_a_mhl => .bytes [0x9E]
  | .sbc_a_a => .bytes [0x9F]
  | .and_b => .bytes [0xA0]
  | .and_c => .bytes [0xA1]
  | .and_d => .bytes [0xA2]
  | .and_e => .bytes [0xA3]
  | .and_h => .bytes [0xA4]
  | .and_l => .bytes [0xA5]
  | .and_mhl => .bytes [0xA6]
  | .and_a => .bytes [0xA7]
  | .xor_b => .bytes [0xA8]
  | .xor_c => .bytes [0xA9]
  | .xor_d => .bytes [0xAA]
  | .xor_e => .bytes [0xAB]
  | .xor_h => .bytes [0xAC]
  | .xor_l => .bytes [0xAD]
  | .xor_mhl => .bytes [0xAE]
  | .xor_a => .bytes [0xAF]
  | .or_b => .bytes [0xB0]
  | .or_c => .bytes [0xB1]
  | .or_d => .bytes [0xB2]
  | .or_e => .bytes [0xB3]
  | .or_h => .bytes [0xB4]
  | .or_l => .bytes [0xB5]
  | .or_mhl => .bytes [0xB6]
  | .or_a => .bytes [0xB7]
  | .cp_b => .bytes [0xB8]
  | .cp_c => .bytes [0xB9]
  | .cp_d => .bytes [0xBA]
  | .cp_e => .bytes [0xBB]
  | .cp_h => .bytes [0xBC]
  | .cp_l => .bytes [0xBD]
  | .cp_mhl => .bytes [0xBE]
  | .cp_a => .bytes [0xBF]
  | .ret_nz => .bytes [0xC0]
  | .pop_bc => .bytes [0xC1]
  | .jp_nz_a16 a16 => .bytes [0xC2, loByte a16, hiByte a16]
  | .jp_a16 a16 => .bytes [0xC3, loByte a16, hiByte a16]
  | .call_nz_a16 a16 => .bytes [0xC4, loByte a16, hiByte a16]
  | .push_bc => .bytes [0xC5]
  | .add_a_d8 d8 => .bytes [0xC6, d8]
  | .rst_00 => .bytes [0xC7]
  | .ret_z => .bytes [0xC8]
  | .ret => .bytes [0xC9]
  | .jp_z_a16 a16 => .bytes [0xCA, loByte a16, hiByte a16]
  | .call_z_a16 a16 => .bytes [0xCC, loByte a16, hiByte a16]
  | .call_a16 a16 => .bytes [0xCD, loByte a16, hiByte a16]
  | .adc_a_d8 d8 => .bytes [0xCE, d8]
  | .rst_08 => .bytes [0xCF]
  | .ret_nc => .bytes [0xD0]
  | .pop_de => .bytes [0xD1]
  | .jp_nc_a16 a16 => .bytes [0xD2, loByte a16, hiByte a16]
  | .call_nc_a16 a16 => .bytes [0xD4, loByte a16, hiByte a16]
  | .push_de => .bytes [0xD5]
  | .sub_d8 d8 => .bytes [0xD6, d8]
  | .rst_10 => .bytes [0xD7]
  | .ret_c => .bytes [0xD8]
  | .jp_c_a16 a16 => .bytes [0xDA, loByte a16, hiByte a16]
  | .call_c_a16 a16 => .bytes [0xDC, loByte a16, hiByte a16]
  | .sbc_a_d8 d8 => .bytes [0xDE, d8]
  | .rst_18 => .bytes [0xDF]
  | .ldh_ma8_a a8 => .bytes [0xE0, a8]
  | .pop_hl => .bytes [0xE1]
  | .ld_mc_a => .bytes [0xE2]
  | .push_hl => .bytes [0xE5]
  | .and_d8 d8 => .bytes [0xE6, d8]
  | .rst_20 => .bytes [0xE7]
  | .add_sp_e8 e8 => .bytes [0xE8, e8]
  | .jp_hl => .bytes [0xE9]
  | .ld_ma16_a a16 => .bytes [0xEA, loByte a16, hiByte a16]
  | .xor_d8 d8 => .bytes [0xEE, d8]
  | .rst_28 => .bytes [0xEF]
  | .ldh_a_ma8 a8 => .bytes [0xF0, a8]
  | .pop_af => .bytes [0xF1]
  | .ld_a_mc => .bytes [0xF2]
  | .push_af => .bytes [0xF5]
  | .or_d8 d8 => .bytes [0xF6, d8]
  | .rst_30 => .bytes [0xF7]
  | .ld_hl_sp_e8 e8 => .bytes [0xF8, e8]
  | .ld_sp_hl => .bytes [0xF9]
  | .ld_a_ma16 a16 => .bytes [0xFA, loByte a16, hiByte a16]
  | .cp_d8 d8 => .bytes [0xFE, d8]
  | .rst_38 => .bytes [0xFF]
  | .rlc_b => .bytes [0xCB, 0x00]
  | .rlc_c => .bytes [0xCB, 0x01]
  | .rlc_d => .bytes [0xCB, 0x02]
  | .rlc_e => .bytes [0xCB, 0x03]
  | .rlc_h => .bytes [0xCB, 0x04]
  | .rlc_l => .bytes [0xCB, 0x05]
  | .rlc_mhl => .bytes [0xCB, 0x06]
  | .rlc_a => .bytes [0xCB, 0x07]
  | .rrc_b => .bytes [0xCB, 0x08]
  | .rrc_c => .bytes [0xCB, 0x09]
  | .rrc_d => .bytes [0xCB, 0x0A]
  | .rrc_e => .bytes [0xCB, 0x0B]
  | .rrc_h => .bytes [0xCB, 0x0C]
  | .rrc_l => .bytes [0xCB, 0x0D]
  | .rrc_mhl => .bytes [0xCB, 0x0E]
  | .rrc_a => .bytes [0xCB, 0x0F]
  | .rl_b => .bytes [0xCB, 0x10]
  | .rl_c => .bytes [0xCB, 0x11]
  | .rl_d => .bytes [0xCB, 0x12]
  | .rl_e => .bytes [0xCB, 0x13]
  | .rl_h => .bytes [0xCB, 0x14]
  | .rl_l => .bytes [0xCB, 0x15]
  | .rl_mhl => .bytes [0xCB, 0x16]
  | .rl_a => .bytes [0xCB, 0x17]
  | .rr_b => .bytes [0xCB, 0x18]
  | .rr_c => .bytes [0xCB, 0x19]
  | .rr_d => .bytes [0xCB, 0x1A]
  | .rr_e => .bytes [0xCB, 0x1B]
  | .rr_h => .bytes [0xCB, 0x1C]
  | .rr_l => .bytes [0xCB, 0x1D]
  | .rr_mhl => .bytes [0xCB, 0x1E]
  | .rr_a => .bytes [0xCB, 0x1F]
  | .sla_b => .bytes [0xCB, 0x20]
  | .sla_c => .bytes [0xCB, 0x21]
  | .sla_d => .bytes [0xCB, 0x22]
  | .sla_e => .bytes [0xCB, 0x23]
  | .sla_h => .bytes [0xCB, 0x24]
  | .sla_l => .bytes [0xCB, 0x25]
  | .sla_mhl => .bytes [0xCB, 0x26]
  | .sla_a => .bytes [0xCB, 0x27]
  | .sra_b => .bytes [0xCB, 0x28]
  | .sra_c => .bytes [0xCB, 0x29]
  | .sra_d => .bytes [0xCB, 0x2A]
  | .sra_e => .bytes [0xCB, 0x2B]
  | .sra_h => .bytes [0xCB, 0x2C]
  | .sra_l => .bytes [0xCB, 0x2D]
  | .sra_mhl => .bytes [0xCB, 0x2E]
  | .sra_a => .bytes [0xCB, 0x2F]
  | .swap_b => .bytes [0xCB, 0x30]
  | .swap_c => .bytes [0xCB, 0x31]
  | .swap_d => .bytes [0xCB, 0x32]
  | .swap_e => .bytes [0xCB, 0x33]
  | .swap_h => .bytes [0xCB, 0x34]
  | .swap_l => .bytes [0xCB, 0x35]
  | .swap_mhl => .bytes [0xCB, 0x36]
  | .swap_a => .bytes [0xCB, 0x37]
  | .srl_b => .bytes [0xCB, 0x38]
  | .srl_c => .bytes [0xCB, 0x39]
  | .srl_d => .bytes [0xCB, 0x3A]
  | .srl_e => .bytes [0xCB, 0x3B]
  | .srl_h => .bytes [0xCB, 0x3C]
  | .srl_l => .bytes [0xCB, 0x3D]
  | .srl_mhl => .bytes [0xCB, 0x3E]
  | .srl_a => .bytes [0xCB, 0x3F]
  | .bit_0_b => .bytes [0xCB, 0x40]
  | .bit_0_c => .bytes [0xCB, 0x41]
  | .bit_0_d => .bytes [0xCB, 0x42]
  | .bit_0_e => .bytes [0xCB, 0x43]
  | .bit_0_h => .bytes [0xCB, 0x44]
  | .bit_0_l => .bytes [0xCB, 0x45]
  | .bit_0_mhl => .bytes [0xCB, 0x46]
  | .bit_0_a => .bytes [0xCB, 0x47]
  | .bit_1_b => .bytes [0xCB, 0x48]
  | .bit_1_c => .bytes [0xCB, 0x49]
  | .bit_1_d => .bytes [0xCB, 0x4A]
  | .bit_1_e => .bytes [0xCB, 0x4B]
  | .bit_1_h => .bytes [0xCB, 0x4C]
  | .bit_1_l => .bytes [0xCB, 0x4D]
  | .bit_1_mhl => .bytes [0xCB, 0x4E]
  | .bit_1_a => .bytes [0xCB, 0x4F]
  | .bit_2_b => .bytes [0xCB, 0x50]
  | .bit_2_c => .bytes [0xCB, 0x51]
  | .bit_2_d => .bytes [0xCB, 0x52]
  | .bit_2_e => .bytes [0xCB, 0x53]
  | .bit_2_h => .bytes [0xCB, 0x54]
  | .bit_2_l => .bytes [0xCB, 0x55]
  | .bit_2_mhl => .bytes [0xCB, 0x56]
  | .bit_2_a => .bytes [0xCB, 0x57]
  | .bit_3_b => .bytes [0xCB, 0x58]
  | .bit_3_c => .bytes [0xCB, 0x59]
  | .bit_3_d => .bytes [0xCB, 0x5A]
  | .bit_3_e => .bytes [0xCB, 0x5B]
  | .bit_3_h => .bytes [0xCB, 0x5C]
  | .bit_3_l => .bytes [0xCB, 0x5D]
  | .bit_3_mhl => .bytes [0xCB, 0x5E]
  | .bit_3_a => .bytes [0xCB, 0x5F]
  | .bit_4_b => .bytes [0xCB, 0x60]
  | .bit_4_c => .bytes [0xCB, 0x61]
  | .bit_4_d => .bytes [0xCB, 0x62]
  | .bit_4_e => .bytes [0xCB, 0x63]
  | .bit_4_h => .bytes [0xCB, 0x64]
  | .bit_4_l => .bytes [0xCB, 0x65]
  | .bit_4_mhl => .bytes [0xCB, 0x66]
  | .bit_4_a => .bytes [0xCB, 0x67]
  | .bit_5_b => .bytes [0xCB, 0x68]
  | .bit_5_c => .bytes [0xCB, 0x69]
  | .bit_5_d => .bytes [0xCB, 0x6A]
  | .bit_5_e => .bytes [0xCB, 0x6B]
  | .bit_5_h => .bytes [0xCB, 0x6C]
  | .bit_5_l => .bytes [0xCB, 0x6D]
  | .bit_5_mhl => .bytes [0xCB, 0x6E]
  | .bit_5_a => .bytes [0xCB, 0x6F]
  | .bit_6_b => .bytes [0xCB, 0x70]
  | .bit_6_c => .bytes [0xCB, 0x71]
  | .bit_6_d => .bytes [0xCB, 0x72]
  | .bit_6_e => .bytes [0xCB, 0x73]
  | .bit_6_h => .bytes [0xCB, 0x74]
  | .bit_6_l => .bytes [0xCB, 0x75]
  | .bit_6_mhl => .bytes [0xCB, 0x76]
  | .bit_6_a => .bytes [0xCB, 0x77]
  | .bit_7_b => .bytes [0xCB, 0x78]
  | .bit_7_c => .bytes [0xCB, 0x79]
  | .bit_7_d => .bytes [0xCB, 0x7A]
  | .bit_7_e => .bytes [0xCB, 0x7B]
  | .bit_7_h => .bytes [0xCB, 0x7C]
  | .bit_7_l => .bytes [0xCB, 0x7D]
  | .bit_7_mhl => .bytes [0xCB, 0x7E]
  | .bit_7_a => .bytes [0xCB, 0x7F]
  | .res_0_b => .bytes [0xCB, 0x80]
  | .res_0_c => .bytes [0xCB, 0x81]
  | .res_0_d => .bytes [0xCB, 0x82]
  | .res_0_e => .bytes [0xCB, 0x83]
  | .res_0_h => .bytes [0xCB, 0x84]
  | .res_0_l => .bytes [0xCB, 0x85]
  | .res_0_mhl => .bytes [0xCB, 0x86]
  | .res_0_a => .bytes [0xCB, 0x87]
  | .res_1_b => .bytes [0xCB, 0x88]
  | .res_1_c => .bytes [0xCB, 0x89]
  | .res_1_d => .bytes [0xCB, 0x8A]
  | .res_1_e => .bytes [0xCB, 0x8B]
  | .res_1_h => .bytes [0xCB, 0x8C]
  | .res_1_l => .bytes [0xCB, 0x8D]
  | .res_1_mhl => .bytes [0xCB, 0x8E]
  | .res_1_a => .bytes [0xCB, 0x8F]
  | .res_2_b => .bytes [0xCB, 0x90]
  | .res_2_c => .bytes [0xCB, 0x91]
  | .res_2_d => .bytes [0xCB, 0x92]
  | .res_2_e => .bytes [0xCB, 0x93]
  | .res_2_h => .bytes [0xCB, 0x94]
  | .res_2_l => .bytes [0xCB, 0x95]
  | .res_2_mhl => .bytes [0xCB, 0x96]
  | .res_2_a => .bytes [0xCB, 0x97]
  | .res_3_b => .bytes [0xCB, 0x98]
  | .res_3_c => .bytes [0xCB, 0x99]
  | .res_3_d => .bytes [0xCB, 0x9A]
  | .res_3_e => .bytes [0xCB, 0x9B]
  | .res_3_h => .bytes [0xCB, 0x9C]
  | .res_3_l => .bytes [0xCB, 0x9D]
  | .res_3_mhl => .bytes [0xCB, 0x9E]
  | .res_3_a => .bytes [0xCB, 0x9F]
  | .res_4_b => .bytes [0xCB, 0xA0]
  | .res_4_c => .bytes [0xCB, 0xA1]
  | .res_4_d => .bytes [0xCB, 0xA2]
  | .res_4_e => .bytes [0xCB, 0xA3]
  | .res_4_h => .bytes [0xCB, 0xA4]
  | .res_4_l => .bytes [0xCB, 0xA5]
  | .res_4_mhl => .bytes [0xCB, 0xA6]
  | .res_4_a => .bytes [0xCB, 0xA7]
  | .res_5_b => .bytes [0xCB, 0xA8]
  | .res_5_c => .bytes [0xCB, 0xA9]
  | .res_5_d => .bytes [0xCB, 0xAA]
  | .res_5_e => .bytes [0xCB, 0xAB]
  | .res_5_h => .bytes [0xCB, 0xAC]
  | .res_5_l => .bytes [0xCB, 0xAD]
  | .res_5_mhl => .bytes [0xCB, 0xAE]
  | .res_5_a => .bytes [0xCB, 0xAF]
  | .res_6_b => .bytes [0xCB, 0xB0]
  | .res_6_c => .bytes [0xCB, 0xB1]
  | .res_6_d => .bytes [0xCB, 0xB2]
  | .res_6_e => .bytes [0xCB, 0xB3]
  | .res_6_h => .bytes [0xCB, 0xB4]
  | .res_6_l => .bytes [0xCB, 0xB5]
  | .res_6_mhl => .bytes [0xCB, 0xB6]
  | .res_6_a => .bytes [0xCB, 0xB7]
  | .res_7_b => .bytes [0xCB, 0xB8]
  | .res_7_c => .bytes [0xCB, 0xB9]
  | .res_7_d => .bytes [0xCB, 0xBA]
  | .res_7_e => .bytes [0xCB, 0xBB]
  | .res_7_h => .bytes [0xCB, 0xBC]
  | .res_7_l => .bytes [0xCB, 0xBD]
  | .res_7_mhl => .bytes [0xCB, 0xBE]
  | .res_7_a => .bytes [0xCB, 0xBF]
  | .set_0_b => .bytes [0xCB, 0xC0]
  | .set_0_c => .bytes [0xCB, 0xC1]
  | .set_0_d => .bytes [0xCB, 0xC2]
  | .set_0_e => .bytes [0xCB, 0xC3]
  | .set_0_h => .bytes [0xCB, 0xC4]
  | .set_0_l => .bytes [0xCB, 0xC5]
  | .set_0_mhl => .bytes [0xCB, 0xC6]
  | .set_0_a => .bytes [0xCB, 0xC7]
  | .set_1_b => .bytes [0xCB, 0xC8]
  | .set_1_c => .bytes [0xCB, 0xC9]
  | .set_1_d => .bytes [0xCB, 0xCA]
  | .set_1_e => .bytes [0xCB, 0xCB]
  | .set_1_h => .bytes [0xCB, 0xCC]
  | .set_1_l => .bytes [0xCB, 0xCD]
  | .set_1_mhl => .bytes [0xCB, 0xCE]
  | .set_1_a => .bytes [0xCB, 0xCF]
  | .set_2_b => .bytes [0xCB, 0xD0]
  | .set_2_c => .bytes [0xCB, 0xD1]
  | .set_2_d => .bytes [0xCB, 0xD2]
  | .set_2_e => .bytes [0xCB, 0xD3]
  | .set_2_h => .bytes [0xCB, 0xD4]
  | .set_2_l => .bytes [0xCB, 0xD5]
  | .set_2_mhl => .bytes [0xCB, 0xD6]
  | .set_2_a => .bytes [0xCB, 0xD7]
  | .set_3_b => .bytes [0xCB, 0xD8]
  | .set_3_c => .bytes [0xCB, 0xD9]
  | .set_3_d => .bytes [0xCB, 0xDA]
  | .set_3_e => .bytes [0xCB, 0xDB]
  | .set_3_h => .bytes [0xCB, 0xDC]
  | .set_3_l => .bytes [0xCB, 0xDD]
  | .set_3_mhl => .bytes [0xCB, 0xDE]
  | .set_3_a => .bytes [0xCB, 0xDF]
  | .set_4_b => .bytes [0xCB, 0xE0]
  | .set_4_c => .bytes [0xCB, 0xE1]
  | .set_4_d => .bytes [0xCB, 0xE2]
  | .set_4_e => .bytes [0xCB, 0xE3]
  | .set_4_h => .bytes [0xCB, 0xE4]
  | .set_4_l => .bytes [0xCB, 0xE5]
  | .set_4_mhl => .bytes [0xCB, 0xE6]
  | .set_4_a => .bytes [0xCB, 0xE7]
  | .set_5_b => .bytes [0xCB, 0xE8]
  | .set_5_c => .bytes [0xCB, 0xE9]
  | .set_5_d => .bytes [0xCB, 0xEA]
  | .set_5_e => .bytes [0xCB, 0xEB]
  | .set_5_h => .bytes [0xCB, 0xEC]
  | .set_5_l => .bytes [0xCB, 0xED]
  | .set_5_mhl => .bytes [0xCB, 0xEE]
  | .set_5_a => .bytes [0xCB, 0xEF]
  | .set_6_b => .bytes [0xCB, 0xF0]
  | .set_6_c => .bytes [0xCB, 0xF1]
  | .set_6_d => .bytes [0xCB, 0xF2]
  | .set_6_e => .bytes [0xCB, 0xF3]
  | .set_6_h => .bytes [0xCB, 0xF4]
  | .set_6_l => .bytes [0xCB, 0xF5]
  | .set_6_mhl => .bytes [0xCB, 0xF6]
  | .set_6_a => .bytes [0xCB, 0xF7]
  | .set_7_b => .bytes [0xCB, 0xF8]
  | .set_7_c => .bytes [0xCB, 0xF9]
  | .set_7_d => .bytes [0xCB, 0xFA]
  | .set_7_e => .bytes [0xCB, 0xFB]
  | .set_7_h => .bytes [0xCB, 0xFC]
  | .set_7_l => .bytes [0xCB, 0xFD]
  | .set_7_mhl => .bytes [0xCB, 0xFE]
  | .set_7_a => .bytes [0xCB, 0xFF]

/-- The word of an A32 instruction (0 for an N8 one). -/
def Instr.word (i : Instr) : Word :=
  match i.encoding with
  | .word w => w
  | .bytes _ => 0

/-- The profile an instruction belongs to. -/
def Instr.profile (i : Instr) : Profile :=
  match i.encoding with
  | .word _ => .a32
  | .bytes _ => .n8

/-- The bytes of an instruction in ascending address order (R122, R202). -/
def encode (i : Instr) : List Byte :=
  match i.encoding with
  | .word w => bytesOf 4 w
  | .bytes l => l

/-! ## The opcode table's numbering -/

/-- The profile and the bytes, in ascending address order, of an instruction numbered as
spec/opcode_table.json numbers it. A row of 32 bits is an A32 word. A prefixed N8 row has 0xCB in bits 15:8
and `cb` in bits 7:0 (its `match` is 0xCBxx). Any other N8 row has its opcode in bits 7:0 and operand bytes above;
bits the row does not have are 0 (log 10). -/
def tableBytes (nbits w : Nat) : Profile × List Byte :=
  let b (k : Nat) : Byte := BitVec.ofNat 8 (if 8 * k < nbits then w >>> (8 * k) else 0)
  if nbits = 32 then (.a32, [b 0, b 1, b 2, b 3])
  else if b 1 = 0xCB then (.n8, [b 1, b 0, 0])
  else (.n8, [b 0, b 1, b 2])

/-- What the decoder reads from an instruction numbered as spec/opcode_table.json numbers it: the class and
fields of R170 and R171 in A32 (R185 and R186 are checked after them, R227), the table entry in N8. -/
def decodeTableWord (nbits w : Nat) : Option Instr :=
  match tableBytes nbits w with
  | (.a32, bytes) => decodeA32 (littleEndian bytes)
  | (.n8, bytes) =>
    match decodeN8 bytes with
    | .ok (i, _) => some i
    | .error _ => none

end Sys2Proof
end

