-- ==== Sys2Proof/Machine/Defaults.lean ====
section
/-! DEFINITION. The default values of the parameters of 00_scope.md R10: the address maps of
20_memory.md R131 and R132 and the cycle costs of 70_reset_and_hazards.md R600 and R601. -/

namespace Sys2Proof

/-- `ALEN`: the address width of a profile in bits (R10, R100). -/
def Profile.alen : Profile → Nat
  | .a32 => 32
  | .n8 => 16

/-- An entry of a default map: the whole of one region, whose bytes keep the place of their bus
addresses in the backing store. -/
def MapEntry.plain (start last : Nat) (kind : RegionKind) : MapEntry :=
  ⟨start, last, ⟨kind, last + 1 - start, start⟩, 0⟩

/-- The A32 default map (R131): BIOS, EWRAM, IWRAM, I/O registers, palette RAM, VRAM, OAM, cartridge ROM. -/
def defaultMapA32 : List MapEntry :=
  [ .plain 0x00000000 0x00003FFF (.buffer true),
    .plain 0x02000000 0x0203FFFF (.buffer false),
    .plain 0x03000000 0x03007FFF (.buffer false),
    .plain 0x04000000 0x040003FF (.io 0),
    .plain 0x05000000 0x050003FF (.buffer false),
    .plain 0x06000000 0x06017FFF (.buffer false),
    .plain 0x07000000 0x070003FF (.buffer false),
    .plain 0x08000000 0x09FFFFFF (.buffer true) ]

/-- The N8 default map (R132): ROM, VRAM, external RAM, work RAM, OAM, I/O ports, high RAM, the
interrupt-enable byte. -/
def defaultMapN8 : List MapEntry :=
  [ .plain 0x0000 0x7FFF (.buffer true),
    .plain 0x8000 0x9FFF (.buffer false),
    .plain 0xA000 0xBFFF (.buffer false),
    .plain 0xC000 0xDFFF (.buffer false),
    .plain 0xFE00 0xFE9F (.buffer false),
    .plain 0xFF00 0xFF7F (.io 0),
    .plain 0xFF80 0xFFFE (.buffer false),
    .plain 0xFFFF 0xFFFF (.buffer false) ]

/-- The default A32 core: STRICT, `STORED_PC_OFFSET` 12, `RESET_STATUS` 0x000000D3 (R10, R90). -/
def Config.a32 : Config where
  profile := .a32
  decodeMode := .strict
  storedPcOffset := 12
  resetStatusA32 := 0x000000D3
  resetStatusN8 := 0x00
  map := defaultMapA32
  bindings := []
  costs := []

/-- The default N8 core (R10, R90). -/
def Config.n8 : Config := { Config.a32 with profile := .n8, map := defaultMapN8 }

/-- Two more cycles when an instruction writes R15 (last column of R600). -/
def pcCost (writesPc : Bool) : Nat := if writesPc then 2 else 0

/-- The default cost of a row of R600 or R601. -/
def CostRow.default : CostRow → Nat
  | .condFailed => 1
  | .unrecognizedNoOp => 1
  | .dataProc registerShift writesPc => (if registerShift then 2 else 1) + pcCost writesPc
  | .b => 3
  | .bl => 3
  | .bx => 3
  | .mrs => 1
  | .msr => 1
  | .mul m => 1 + m
  | .mla m => 2 + m
  | .longMul m => 2 + m
  | .longMla m => 3 + m
  | .load writesPc => 3 + pcCost writesPc
  | .store => 2
  | .ldm n writesPc => n + 2 + pcCost writesPc
  | .stm n => n + 1
  | .swap => 4
  | .nop => 4
  | .halt => 4
  | .ldRR => 4
  | .ldRHL => 8
  | .ldRD8 => 8
  | .ldHLD8 => 12
  | .ldAInd => 8
  | .ldAStep => 8
  | .ldAAbs => 16
  | .ldh => 12
  | .ldAC => 8
  | .ldR16 => 12
  | .ldA16SP => 20
  | .ldSPHL => 8
  | .push => 16
  | .pop => 12
  | .aluR => 4
  | .aluHL => 8
  | .aluD8 => 8
  | .incDecR => 4
  | .incDecHL => 12
  | .incDecR16 => 8
  | .addHL => 8
  | .addSP => 16
  | .ldHLSP => 12
  | .rotA => 4
  | .adjust => 4
  | .jp => 16
  | .jpCc taken => if taken then 16 else 12
  | .jpHL => 4
  | .jr => 12
  | .jrCc taken => if taken then 12 else 8
  | .call => 24
  | .callCc taken => if taken then 24 else 12
  | .ret => 16
  | .retCc taken => if taken then 20 else 8
  | .rst => 16
  | .cbR => 8
  | .cbHL => 16
  | .bitR => 8
  | .bitHL => 12

/-- `CYCLE_COST` of a core (R598): its override for the row, else the row's default. -/
def Config.cost (cfg : Config) (row : CostRow) : Nat :=
  ((cfg.costs.find? (fun o => o.1 == row)).map Prod.snd).getD row.default

end Sys2Proof
end

