-- ==== Sys2Proof/Machine/State.lean ====
section
/-! DEFINITION. The state of the core (10_state.md, 20_memory.md), the faults a step or a host call ends in
(60_exceptions.md R541), the refusals, and the state after reset (R90, R580). -/

namespace Sys2Proof.Machine

/-- The three access widths of the Bus (R13). -/
inductive Width where
  | byte
  | half
  | word
  deriving DecidableEq, Repr

/-- The kind of a Bus access (R113). -/
inductive AccessKind where
  | read
  | write
  deriving DecidableEq, Repr

/-- What a faulting step reports and leaves behind beside its information: `profile` and `addr` of the fault
record (R540; `addr` is the address of the instruction, or of the byte whose fetch faulted), the open-bus latch its successful
reads set (R81, R234.4), and the counter of draws its I/O reads made (R234.4; the model's own, log 5, log 7). -/
structure Site where
  profile : Profile
  addr : Word
  openBus : Word
  draws : Nat
  deriving DecidableEq, Repr

/-- The information of an `InvalidModeError`: the T bit, or the refused mode value (R541). -/
inductive ModeInfo where
  | thumb
  | mode (m : BitVec 5)
  deriving DecidableEq, Repr

/-- The request a `ConfigurationError` rejects (R541): a `map` (R111) or an `io_bind` (R128). -/
inductive ConfigRequest where
  | map (start size : Nat) (region : Region) (localBase : Nat)
  | ioBind (region : Region) (offset : Nat)
  deriving DecidableEq, Repr

/-- The fault taxonomy (R541). A fault leaves the state as it was before the step but for what `Site` holds (R234). -/
inductive Fault where
  /-- `ConfigurationError`, code 1: raised by `hostMap` (R111) and `ioBind` (R128), never by a step; safe. -/
  | configuration (request : ConfigRequest)
  /-- `BusFaultError`, code 2: raised by routing (R113) in a fetch or a data access; safe, the spec's own fault. -/
  | bus (site : Site) (address : Word) (width : Width) (kind : AccessKind)
  /-- `UnimplementedInstructionError`, code 3: raised by the N8 fetch (R231); safe, the spec's own fault. -/
  | unimplemented (site : Site) (opcode : Byte) (address : Half)
  /-- `DecodeError`, code 4: raised by the A32 fetch (R226, R227) and by an instruction whose operands R186 refuses;
  safe, the spec's own fault. -/
  | decode (site : Site) (instr : Word) (address : Word) (reason : DecodeReason)
  /-- `InvalidModeError`, code 5: raised by a step with T = 1 (R221) and by MSR (R352); safe, the spec's own fault. -/
  | invalidMode (site : Site) (mode : ModeInfo)
  /-- `RegisterIndexFault`, code 6: raised by the host's `hostGet` and `hostSet` (R41), never by a step; safe. -/
  | registerIndex (index : Nat)
  deriving DecidableEq, Repr

/-- The refusals. -/
inductive Refusal where
  /-- raised by `exec` for an instruction that has no meaning yet; safe (the machine stops). -/
  | notModelled (mnemonic : String)
  /-- raised by `hostGetFlag` for a flag the profile lacks (R74), never by a step; safe. -/
  | noSuchFlag
  deriving DecidableEq, Repr

/-- What the host can observe besides the state (R564), each newest first in `State.events` (log 6). -/
inductive Event where
  /-- a byte presented to an I/O block (R130): its local offset, and whether a setter is bound there (R128) -/
  | ioWrite (offset : Nat) (byte : Byte) (bound : Bool)
  /-- the logged no-op of an unrecognized class in PERMISSIVE mode (R226, R546) -/
  | unrecognizedNoOp (addr : Word) (instr : Word)
  /-- the call `advance(cycles)` at the end of a step that returns normally (R15, R243) -/
  | advance (cycles : Nat)
  deriving DecidableEq, Repr

/-- The N8 register array in storage order (R67). -/
structure N8File where
  a : Byte
  f : Byte
  b : Byte
  c : Byte
  d : Byte
  e : Byte
  h : Byte
  l : Byte
  deriving DecidableEq, Repr

/-- The state of the core. It holds the registers of both profiles; `cfg.profile` says which are the core's
(log 1). `draws` and `events` are the model's own (log 5, log 6). -/
structure State where
  /-- the setup, changed by no step (R110, R582) -/
  cfg : Config
  /-- R0 to R15 (R43) -/
  x : Vector Word 16
  /-- the A32 status word (R60) -/
  sw : Word
  /-- A, F, B, C, D, E, H, L (R67); F is the N8 status word (R66) -/
  n8 : N8File
  /-- the N8 stack pointer (R69) -/
  sp : Half
  /-- the N8 program counter (R70) -/
  pc : Half
  /-- the open-bus latch (R80) -/
  openBus : Word
  /-- the running flag (R82) -/
  running : Bool
  /-- the bytes of every buffer region in canonical form (R102, log 4) -/
  mem : List Host.Cell
  /-- how many oracle draws have been made (log 5) -/
  draws : Nat
  /-- the events the host has seen, newest first (R564, log 6) -/
  events : List Event
  deriving DecidableEq, Repr

/-- How a step of the model ends. -/
abbrev Result := Host.Outcome State Fault Refusal

/-- The A32 core after `reset(0x00000000)` with default parameters (R90, R580): every register 0, the status word
RESET_STATUS = 0x000000D3, the latch 0, running, memory with nothing listed. The entry address is the model's
choice (log 2), and so are `draws` and `events` (log 5, log 6). -/
def State.reset : State where
  cfg := Config.a32
  x := Vector.replicate 16 0
  sw := 0x000000D3
  n8 := ⟨0, 0, 0, 0, 0, 0, 0, 0⟩
  sp := 0
  pc := 0
  openBus := 0
  running := true
  mem := []
  draws := 0
  events := []

end Sys2Proof.Machine
end

