-- ==== Sys2Proof/Machine/Flags.lean ====
section
/-! DEFINITION. The status words (10_state.md R60, R66, R73), the condition tests (R161, R510) and every flag
computation of the two profiles (42_a32_data_processing.md R283 and R284, 47_n8_alu.md, 48_n8_cb.md). -/

namespace Sys2Proof.Machine

/-- A value with bit `i` made `b`. -/
def setBit {n : Nat} (v : BitVec n) (i : Nat) (b : Bool) : BitVec n :=
  if b then v ||| (1#n <<< i) else v &&& ~~~(1#n <<< i)

/-- A value with bit `i` made `b` where a value is named, unchanged where none is (R73). -/
def setBitOpt {n : Nat} (v : BitVec n) (i : Nat) : Option Bool → BitVec n
  | none => v
  | some b => setBit v i b

/-! ## A32 -/

/-- Bit 31 of the status word (R60). -/
def flagN (sw : Word) : Bool := sw.getLsbD 31

/-- Bit 30 of the status word (R60). -/
def flagZ (sw : Word) : Bool := sw.getLsbD 30

/-- Bit 29 of the status word (R60). -/
def flagC (sw : Word) : Bool := sw.getLsbD 29

/-- Bit 28 of the status word (R60). -/
def flagV (sw : Word) : Bool := sw.getLsbD 28

/-- Bit 5 of the status word (R64). -/
def flagT (sw : Word) : Bool := sw.getLsbD 5

/-- The mode bits M[4:0] (R63). -/
def modeBits (sw : Word) : BitVec 5 := sw.extractLsb' 0 5

/-- A partial update of the A32 flags by name (R73). -/
structure FlagsA32 where
  n : Option Bool := none
  z : Option Bool := none
  c : Option Bool := none
  v : Option Bool := none
  deriving DecidableEq, Repr

/-- `SetFlags` in A32 (R73). -/
def setFlagsA32 (sw : Word) (f : FlagsA32) : Word :=
  setBitOpt (setBitOpt (setBitOpt (setBitOpt sw 31 f.n) 30 f.z) 29 f.c) 28 f.v

/-- `ConditionPassed` (R224): the "passes when" column of R161. -/
def conditionPassed (cond : Cond) (sw : Word) : Bool :=
  match cond with
  | .eq => flagZ sw
  | .ne => !flagZ sw
  | .cs => flagC sw
  | .cc => !flagC sw
  | .mi => flagN sw
  | .pl => !flagN sw
  | .vs => flagV sw
  | .vc => !flagV sw
  | .hi => flagC sw && !flagZ sw
  | .ls => !flagC sw || flagZ sw
  | .ge => flagN sw == flagV sw
  | .lt => flagN sw != flagV sw
  | .gt => !flagZ sw && flagN sw == flagV sw
  | .le => flagZ sw || flagN sw != flagV sw
  | .al => true
  | .unknown => true

/-- A result with its carry and overflow (R284). -/
structure SumA32 where
  value : Word
  carry : Bool
  overflow : Bool
  deriving DecidableEq, Repr

/-- `AddWithCarry` (R284): the exact sums are compared with the 32-bit result. -/
def addWithCarry (x y : Word) (cin : Bool) : SumA32 :=
  let usum := x.toNat + y.toNat + cin.toNat
  let result := BitVec.ofNat 32 usum
  ⟨result, decide (usum ≥ 2 ^ 32), decide (x.toInt + y.toInt + (cin.toNat : Int) ≠ result.toInt)⟩

/-- What a data-processing operation computes: the result, and the flags it sets when S = 1. -/
structure DpOut where
  value : Word
  flags : FlagsA32
  deriving DecidableEq, Repr

/-- N and Z of a result, with the C of the shifter; V unchanged (R283, logical). -/
def logicalOut (value : Word) (shC : Bool) : DpOut :=
  ⟨value, { n := some (value.getLsbD 31), z := some (value == 0), c := some shC }⟩

/-- N, Z, C and V of a sum (R283, arithmetic). -/
def arithOut (s : SumA32) : DpOut :=
  ⟨s.value, { n := some (s.value.getLsbD 31), z := some (s.value == 0), c := some s.carry,
              v := some s.overflow }⟩

/-- The sixteen operations (R285 to R300): `n` the first operand, `op2` and `shC` the shifter's, `c` the carry flag
as it stood before the instruction. -/
def dpCompute (op : DpOp) (n op2 : Word) (shC c : Bool) : DpOut :=
  match op with
  | .and => logicalOut (n &&& op2) shC
  | .eor => logicalOut (n ^^^ op2) shC
  | .sub => arithOut (addWithCarry n (~~~op2) true)
  | .rsb => arithOut (addWithCarry op2 (~~~n) true)
  | .add => arithOut (addWithCarry n op2 false)
  | .adc => arithOut (addWithCarry n op2 c)
  | .sbc => arithOut (addWithCarry n (~~~op2) c)
  | .rsc => arithOut (addWithCarry op2 (~~~n) c)
  | .tst => logicalOut (n &&& op2) shC
  | .teq => logicalOut (n ^^^ op2) shC
  | .cmp => arithOut (addWithCarry n (~~~op2) true)
  | .cmn => arithOut (addWithCarry n op2 false)
  | .orr => logicalOut (n ||| op2) shC
  | .mov => logicalOut op2 shC
  | .bic => logicalOut (n &&& ~~~op2) shC
  | .mvn => logicalOut (~~~op2) shC

/-- The flags MUL and MLA set with S = 1 (R331): C is draw `k`, V unchanged. -/
def mulFlags (value : Word) (k : Nat) : FlagsA32 :=
  { n := some (value.getLsbD 31), z := some (value == 0), c := some (Config.mulFlag k) }

/-- The flags a long multiply sets with S = 1 (R331): C is draw `k` and V draw `k + 1`. -/
def mulLongFlags (value : DWord) (k : Nat) : FlagsA32 :=
  { n := some (value.getLsbD 63), z := some (value == 0), c := some (Config.mulFlag k),
    v := some (Config.mulFlag (k + 1)) }

/-! ## N8 -/

/-- Bit 7 of F (R66). -/
def fZ (f : Byte) : Bool := f.getLsbD 7

/-- Bit 6 of F (R66). -/
def fN (f : Byte) : Bool := f.getLsbD 6

/-- Bit 5 of F (R66). -/
def fH (f : Byte) : Bool := f.getLsbD 5

/-- Bit 4 of F (R66). -/
def fC (f : Byte) : Bool := f.getLsbD 4

/-- A partial update of the N8 flags by name (R73). -/
structure FlagsN8 where
  z : Option Bool := none
  n : Option Bool := none
  h : Option Bool := none
  c : Option Bool := none
  deriving DecidableEq, Repr

/-- `SetFlags` in N8 (R73): F[3:0] is preserved (R72). -/
def setFlagsN8 (f : Byte) (u : FlagsN8) : Byte :=
  setBitOpt (setBitOpt (setBitOpt (setBitOpt f 7 u.z) 6 u.n) 5 u.h) 4 u.c

/-- The N8 condition `cc` (R510). -/
def ccPassed (cc : CC) (f : Byte) : Bool :=
  match cc with
  | .nz => !fZ f
  | .z => fZ f
  | .nc => !fC f
  | .c => fC f

/-- An 8-bit result with the flags it sets. -/
structure Out8 where
  value : Byte
  flags : FlagsN8
  deriving DecidableEq, Repr

/-- A 16-bit result with the flags it sets. -/
structure Out16 where
  value : Half
  flags : FlagsN8
  deriving DecidableEq, Repr

/-- The low nibble of a byte, as a number. -/
def nibble (v : Byte) : Nat := v.toNat % 16

/-- ADD and ADC with carry-in `c` (R441, R442): H and C from the unmasked sums. -/
def add8 (a s : Byte) (c : Bool) : Out8 :=
  let r := a.toNat + s.toNat + c.toNat
  let v := BitVec.ofNat 8 r
  ⟨v, { z := some (v == 0), n := some false, h := some (decide (nibble a + nibble s + c.toNat > 0xF)),
        c := some (decide (r > 0xFF)) }⟩

/-- SUB, SBC and CP with borrow-in `c` (R443, R444, R448). -/
def sub8 (a s : Byte) (c : Bool) : Out8 :=
  let v := BitVec.ofInt 8 ((a.toNat : Int) - (s.toNat : Int) - (c.toNat : Int))
  ⟨v, { z := some (v == 0), n := some true, h := some (decide (nibble a < nibble s + c.toNat)),
        c := some (decide (a.toNat < s.toNat + c.toNat)) }⟩

/-- AND, XOR and OR (R445 to R447): H is 1 for AND, 0 for the others; C is 0. -/
def logic8 (v : Byte) (h : Bool) : Out8 :=
  ⟨v, { z := some (v == 0), n := some false, h := some h, c := some false }⟩

/-- The eight ALU operations (R441 to R448) on A, the source `s` and the old carry `c`. For CP the value is A itself: it
writes no register. -/
def aluCompute (op : AluOp) (a s : Byte) (c : Bool) : Out8 :=
  match op with
  | .add => add8 a s false
  | .adc => add8 a s c
  | .sub => sub8 a s false
  | .sbc => sub8 a s c
  | .and => logic8 (a &&& s) true
  | .xor => logic8 (a ^^^ s) false
  | .or => logic8 (a ||| s) false
  | .cp => ⟨a, (sub8 a s false).flags⟩

/-- INC (R449): C unchanged. -/
def inc8 (v : Byte) : Out8 :=
  let r := v + 1
  ⟨r, { z := some (r == 0), n := some false, h := some (decide (nibble v + 1 > 0xF)) }⟩

/-- DEC (R451): C unchanged. -/
def dec8 (v : Byte) : Out8 :=
  let r := v - 1
  ⟨r, { z := some (r == 0), n := some true, h := some (decide (nibble v < 1)) }⟩

/-- ADD HL,rr (R455): H is the carry out of bit 11, Z unchanged. -/
def addHl16 (hl v : Half) : Out16 :=
  ⟨hl + v, { n := some false, h := some (decide (hl.toNat % 0x1000 + v.toNat % 0x1000 > 0xFFF)),
             c := some (decide (hl.toNat + v.toNat > 0xFFFF)) }⟩

/-- ADD SP,e8 and LD HL,SP+e8 (R456, R457): the flags are those of the unsigned addition of the low byte. -/
def addSp16 (sp : Half) (e : Byte) : Out16 :=
  ⟨sp + e.signExtend 16,
    { z := some false, n := some false, h := some (decide (sp.toNat % 0x10 + nibble e > 0xF)),
      c := some (decide (sp.toNat % 0x100 + e.toNat > 0xFF)) }⟩

/-- DAA (R458): both tests use A as it stood before the instruction. -/
def daa8 (a f : Byte) : Out8 :=
  let low := fH f || (!fN f && decide (nibble a > 0x9))
  let high := fC f || (!fN f && decide (a.toNat > 0x99))
  let u : Byte := (if low then 0x06 else 0) ||| (if high then 0x60 else 0)
  let v := if fN f then a - u else a + u
  ⟨v, { z := some (v == 0), h := some false, c := some high }⟩

/-- A rotate or shift: its result and the bit shifted out (R491 to R498), `c` the old carry. -/
def rotCompute (op : RotOp) (v : Byte) (c : Bool) : Byte × Bool :=
  let bit7 := v.getLsbD 7
  let bit0 := v.getLsbD 0
  let low (b : Bool) : Byte := if b then 0x01 else 0
  let high (b : Bool) : Byte := if b then 0x80 else 0
  match op with
  | .rlc => ((v <<< 1) ||| low bit7, bit7)
  | .rrc => ((v >>> 1) ||| high bit0, bit0)
  | .rl => ((v <<< 1) ||| low c, bit7)
  | .rr => ((v >>> 1) ||| high c, bit0)
  | .sla => (v <<< 1, bit7)
  | .sra => ((v >>> 1) ||| (v &&& 0x80), bit0)
  | .swap => ((v <<< 4) ||| (v >>> 4), false)
  | .srl => (v >>> 1, bit0)

/-- A CB rotate, shift or SWAP with its flags (R490). -/
def cbRot8 (op : RotOp) (v : Byte) (c : Bool) : Out8 :=
  let r := rotCompute op v c
  ⟨r.1, { z := some (r.1 == 0), n := some false, h := some false, c := some r.2 }⟩

/-- An accumulator rotate with its flags: Z is cleared whatever the result (R462 to R465). -/
def accRot8 (op : RotOp) (v : Byte) (c : Bool) : Out8 :=
  let r := rotCompute op v c
  ⟨r.1, { z := some false, n := some false, h := some false, c := some r.2 }⟩

/-- The flags of BIT (R499): C unchanged. -/
def bitFlags (v : Byte) (b : Nat) : FlagsN8 :=
  { z := some (!v.getLsbD b), n := some false, h := some true }

end Sys2Proof.Machine
end

