-- ==== Sys2Proof/Machine/Ops.lean ====
section
/-! DEFINITION. The named operations over memory, the Bus and the registers (20_memory.md, 10_state.md,
40_step_and_dispatch.md R234 to R238, 46_n8_loads.md R423 and R424, 44_a32_status_transfer.md R352), how an instruction
ends (R228, R233, R243), how a fault is raised (R540) and reset (R580). Writes are applied at once to the state being
built; a fault discards that state, so this equals the queue of R234 (log 11). -/

namespace Sys2Proof.Machine

/-! ## The backing store

The bytes of all buffer regions, one list of (cell, byte) pairs with cells strictly rising and no byte 0x00;
an unlisted cell reads as 0x00, the default of INITIAL_MEMORY (R138, log 4). -/

/-- The byte of a cell. -/
def Memory.get : List Host.Cell → Nat → Byte
  | [], _ => 0
  | (k, b) :: rest, a => if k = a then b else Memory.get rest a

/-- The store with the byte of a cell replaced, in canonical form. -/
def Memory.set : List Host.Cell → Nat → Byte → List Host.Cell
  | [], a, b => if b = 0 then [] else [(a, b)]
  | (k, c) :: rest, a, b =>
    if a < k then (if b = 0 then (k, c) :: rest else (a, b) :: (k, c) :: rest)
    else if a = k then (if b = 0 then rest else (a, b) :: rest)
    else (k, c) :: Memory.set rest a b

/-- Every cell of the list is at least `lo`, the cells rise strictly, and no byte is 0x00. -/
def Memory.wfFrom (lo : Nat) : List Host.Cell → Bool
  | [] => true
  | (k, b) :: rest => decide (lo ≤ k) && b != 0 && Memory.wfFrom (k + 1) rest

/-- The canonical form. -/
def Memory.wf (m : List Host.Cell) : Bool := Memory.wfFrom 0 m

/-! ## Routing -/

/-- The first entry of the table, in table order, that contains the address (R113). -/
def entryOf (cfg : Config) (a : Nat) : Option MapEntry :=
  cfg.map.find? (fun e => decide (e.start ≤ a) && decide (a ≤ e.last))

/-- `Route` (R113): the region and the local offset of an access of `n` bytes, or none where it faults. -/
def route (cfg : Config) (a n : Nat) : Option (Region × Nat) :=
  match entryOf cfg a with
  | none => none
  | some e => if a + n - 1 > e.last then none else some (e.region, a - e.start + e.localBase)

/-- The number of bytes of a width. -/
def Width.bytes : Width → Nat
  | .byte => 1
  | .half => 2
  | .word => 4

/-! ## Bus reads -/

/-- One byte of a region at a local offset: the stored byte of a buffer (R103), draw `k` of an I/O block (R129). -/
def regionByte (m : List Host.Cell) (r : Region) (k o : Nat) : Byte :=
  match r.kind with
  | .buffer _ => Memory.get m (r.base + o)
  | .io _ => Config.ioRead k o

/-- `n` bytes of a region in ascending offset order (R103, R129). -/
def regionBytes (m : List Host.Cell) (r : Region) (k o n : Nat) : List Byte :=
  (List.range n).map (fun j => regionByte m r (k + j) (o + j))

/-- How many draws a read of `n` bytes makes: one a byte in an I/O block (R129). -/
def drawsOf (r : Region) (n : Nat) : Nat :=
  match r.kind with
  | .buffer _ => 0
  | .io _ => n

/-- The value `read_n` returns from a routed place (R120). -/
def State.readValue (s : State) (r : Region) (o : Nat) (w : Width) : Word :=
  littleEndian (regionBytes s.mem r s.draws o w.bytes)

/-- The state after a read at a routed place: the latch holds the value read (R80; the value has no bit above the
width), and the draws made are counted. -/
def State.afterRead (s : State) (r : Region) (o : Nat) (w : Width) : State :=
  { s with openBus := s.readValue r o w, draws := s.draws + drawsOf r w.bytes }

/-- `read_n` (R120), none where routing faults: the value, and the state after the read. -/
def busRead (s : State) (a : Word) (w : Width) : Option (Word × State) :=
  match route s.cfg a.toNat w.bytes with
  | none => none
  | some (r, o) => some (s.readValue r o w, s.afterRead r o w)

/-! ## Bus writes -/

/-- One byte written to a region: stored, discarded where the region is read-only (R104), or an event where it is an
I/O block (R130). -/
def State.writeByte (s : State) (r : Region) (o : Nat) (b : Byte) : State :=
  match r.kind with
  | .buffer true => s
  | .buffer false => { s with mem := Memory.set s.mem (r.base + o) b }
  | .io block => { s with events := .ioWrite o b (s.cfg.bindings.contains (block, o)) :: s.events }

/-- Bytes written to a region in ascending offset order (R104, R130). -/
def State.writeBytes (s : State) (r : Region) (o : Nat) : List Byte → State
  | [] => s
  | b :: rest => (s.writeByte r o b).writeBytes r (o + 1) rest

/-- `write_n` (R121), none where routing faults: only the low bytes of `v` are used; the latch is unchanged. -/
def busWrite (s : State) (a : Word) (w : Width) (v : Word) : Option State :=
  match route s.cfg a.toNat w.bytes with
  | none => none
  | some (r, o) => some (s.writeBytes r o (bytesOf w.bytes v))

/-- The cells of the backing store that a write of width `w` at `a` changes: none where it faults, is discarded, or is
an I/O write. -/
def storedCells (cfg : Config) (a : Word) (w : Width) : List Nat :=
  match route cfg a.toNat w.bytes with
  | none => []
  | some (r, o) =>
    match r.kind with
    | .buffer false => (List.range w.bytes).map (fun j => r.base + (o + j))
    | .buffer true => []
    | .io _ => []

/-- The byte a bus address holds, without reading it: none where no buffer is mapped. -/
def State.byteAt (s : State) (a : Nat) : Option Byte :=
  match route s.cfg a 1 with
  | none => none
  | some (r, o) =>
    match r.kind with
    | .buffer _ => some (Memory.get s.mem (r.base + o))
    | .io _ => none

/-! ## Registers -/

/-- `R[i]` (R20). -/
def State.getX (s : State) (i : Reg) : Word := s.x.get i.toFin

/-- `R[i] <- v` (R20). -/
def State.setX (s : State) (i : Reg) (v : Word) : State := { s with x := s.x.set i.toNat v i.isLt }

/-- The address of the instruction at the program counter: R15 in A32 (R45), PC in N8 (R70). -/
def State.here (s : State) : Word :=
  match s.cfg.profile with
  | .a32 => s.getX 15
  | .n8 => s.pc.setWidth 32

/-- What a fault raised now at address `addr` reports and leaves (R540, R234.4). -/
def State.siteAt (s : State) (addr : Word) : Site := ⟨s.cfg.profile, addr, s.openBus, s.draws⟩

/-- What a fault raised by the instruction in flight reports and leaves: the program counter is not advanced by a
faulting step (R234.4). -/
def State.site (s : State) : Site := s.siteAt s.here

/-- `MemRead` (R21): the value and the state after it, or the Bus fault, reported at `addr`. -/
def State.loadAt (s : State) (addr : Word) (a : Word) (w : Width) : Except Fault (Word × State) :=
  match busRead s a w with
  | none => .error (.bus (s.siteAt addr) a w .read)
  | some r => .ok r

/-- `MemRead` (R21) by the instruction in flight. -/
def State.load (s : State) (a : Word) (w : Width) : Except Fault (Word × State) := s.loadAt s.here a w

/-- `MemWrite` (R21) by the instruction in flight: the state after it, or the Bus fault (R234.2). -/
def State.store (s : State) (a : Word) (w : Width) (v : Word) : Except Fault State :=
  match busWrite s a w v with
  | none => .error (.bus s.site a w .write)
  | some t => .ok t

/-- Go on with the result of an access, or end the step with its fault (R235). -/
def andThen {α : Type} (r : Except Fault α) (k : α → Result) : Result :=
  match r with
  | .error f => .fault f
  | .ok v => k v

/-- `WritePC` of A32 (R46): masked by the T bit as it stands. -/
def State.writePC (s : State) (v : Word) : State :=
  s.setX 15 (if flagT s.sw then v &&& 0xFFFFFFFE else v &&& 0xFFFFFFFC)

/-- `ReadReg` (R236): R15 reads as the visible PC (R47). -/
def State.readReg (s : State) (i : Reg) : Word := if i = 15 then s.getX 15 + 8 else s.getX i

/-- `WriteReg` (R237). -/
def State.writeReg (s : State) (i : Reg) (v : Word) : State := if i = 15 then s.writePC v else s.setX i v

/-- The value a store of register `i` writes: R15 stores the address plus STORED_PC_OFFSET (R362). -/
def State.storeValue (s : State) (i : Reg) : Word :=
  if i = 15 then s.getX 15 + s.cfg.storedPcOffset else s.getX i

/-- `R[15] <- u32(addr_i + 4)` (R228, R48). -/
def State.advance4 (s : State) : State := s.setX 15 (s.getX 15 + 4)

/-- `SetFlags` of A32 (R73). -/
def State.setFlagsA32 (s : State) (f : FlagsA32) : State := { s with sw := Machine.setFlagsA32 s.sw f }

/-- The byte mask of a field mask (R352). -/
def fieldMask (mask : BitVec 4) : Word :=
  (if mask.getLsbD 3 then 0xFF000000 else 0) ||| (if mask.getLsbD 2 then 0x00FF0000 else 0)
    ||| (if mask.getLsbD 1 then 0x0000FF00 else 0) ||| (if mask.getLsbD 0 then 0x000000FF else 0)

/-- The `new` of `StatusWrite` (R352): the selected bytes of `v`, T kept. -/
def statusWrite (sw : Word) (mask : BitVec 4) (v : Word) : Word :=
  setBit ((sw &&& ~~~(fieldMask mask)) ||| (v &&& fieldMask mask)) 5 (flagT sw)

/-- An 8-bit N8 register (R67). -/
def State.get8 (s : State) : R8 → Byte
  | .a => s.n8.a
  | .f => s.n8.f
  | .b => s.n8.b
  | .c => s.n8.c
  | .d => s.n8.d
  | .e => s.n8.e
  | .h => s.n8.h
  | .l => s.n8.l

/-- The N8 register array with one register replaced (R67). -/
def N8File.set (n : N8File) (r : R8) (v : Byte) : N8File :=
  match r with
  | .a => { n with a := v }
  | .f => { n with f := v }
  | .b => { n with b := v }
  | .c => { n with c := v }
  | .d => { n with d := v }
  | .e => { n with e := v }
  | .h => { n with h := v }
  | .l => { n with l := v }

/-- Write an 8-bit N8 register (R67). -/
def State.set8 (s : State) (r : R8) (v : Byte) : State := { s with n8 := s.n8.set r v }

/-- The high half of a pair (R68). -/
def pairHi : Pair → R8
  | .bc => .b
  | .de => .d
  | .hl => .h
  | .af => .a

/-- The low half of a pair (R68). -/
def pairLo : Pair → R8
  | .bc => .c
  | .de => .e
  | .hl => .l
  | .af => .f

/-- `get_pair` (R68). -/
def State.getPair (s : State) (p : Pair) : Half := half (s.get8 (pairHi p)) (s.get8 (pairLo p))

/-- `set_pair` (R68), one state update. -/
def State.setPair (s : State) (p : Pair) (v : Half) : State :=
  { s with n8 := (s.n8.set (pairHi p) (hiByte v)).set (pairLo p) (loByte v) }

/-- A 16-bit register `rr` (R201): a pair, or SP. -/
def State.get16 (s : State) : R16 → Half
  | .bc => s.getPair .bc
  | .de => s.getPair .de
  | .hl => s.getPair .hl
  | .sp => s.sp

/-- Write a 16-bit register `rr` (R201). -/
def State.set16 (s : State) (r : R16) (v : Half) : State :=
  match r with
  | .bc => s.setPair .bc v
  | .de => s.setPair .de v
  | .hl => s.setPair .hl v
  | .sp => { s with sp := v }

/-- `SetFlags` of N8 (R73). -/
def State.setFlagsN8 (s : State) (u : FlagsN8) : State := s.set8 .f (Machine.setFlagsN8 s.n8.f u)

/-- `PC <- u16(A + len)` (R233, R70). -/
def State.advanceN8 (s : State) (len : Nat) : State := { s with pc := s.pc + BitVec.ofNat 16 len }

/-- A byte read at a 16-bit address (R125, R145). -/
def State.load8 (s : State) (a : Half) : Except Fault (Byte × State) :=
  match s.load (a.setWidth 32) .byte with
  | .error f => .error f
  | .ok (v, t) => .ok (v.setWidth 8, t)

/-- A byte write at a 16-bit address (R125, R145). -/
def State.store8 (s : State) (a : Half) (b : Byte) : Except Fault State :=
  s.store (a.setWidth 32) .byte (b.setWidth 32)

/-- `Push16` (R423): the high byte at SP − 1, then the low byte at SP − 2. -/
def State.push16 (s : State) (v : Half) : Except Fault State :=
  match s.store8 (s.sp - 1) (hiByte v) with
  | .error f => .error f
  | .ok t =>
    match t.store8 (s.sp - 2) (loByte v) with
    | .error f => .error f
    | .ok u => .ok { u with sp := s.sp - 2 }

/-- `Pop16` (R424): the low byte at SP, then the high byte at SP + 1. -/
def State.pop16 (s : State) : Except Fault (Half × State) :=
  match s.load8 s.sp with
  | .error f => .error f
  | .ok (lo, t) =>
    match t.load8 (s.sp + 1) with
    | .error f => .error f
    | .ok (hi, u) => .ok (half hi lo, { u with sp := s.sp + 2 })

/-! ## The end of a step -/

/-- An event the host sees (R564). -/
def State.emit (s : State) (e : Event) : State := { s with events := e :: s.events }

/-- A step that returns normally calls `advance` once with its cycle count (R15, R243). -/
def State.retire (s : State) (row : CostRow) : State := s.emit (.advance (s.cfg.cost row))

/-- The end of an executed instruction. -/
def complete (row : CostRow) (s : State) : Result := .next (s.retire row)

/-- The step of a word whose condition failed (R225). -/
def condFailed (s : State) : State := s.advance4.retire .condFailed

/-- A `DecodeError` for the word `w` at the program counter (R226, R227). -/
def decodeFault (s : State) (w : Word) (reason : DecodeReason) : Result :=
  .fault (.decode s.site w (s.getX 15) reason)

/-- How every A32 instruction runs (R223): the condition gate (R224), the register combinations of R186 (R227), then
its own effect. -/
def a32Run (cond : Cond) (i : Instr) (s : State) (body : State → Result) : Result :=
  if conditionPassed cond s.sw then
    match i.encodingError with
    | some reason => decodeFault s i.word reason
    | none => body s
  else .next (condFailed s)

/-! ## Reset -/

/-- `reset(entry_address)` (R580): memory, the setup and the model's own fields are unchanged (R582). -/
def resetAt (s : State) (entry : Word) : State :=
  match s.cfg.profile with
  | .a32 =>
    State.writePC { s with x := Vector.replicate 16 0, sw := s.cfg.resetStatusA32, openBus := 0, running := true } entry
  | .n8 =>
    { s with n8 := ⟨0, s.cfg.resetStatusN8, 0, 0, 0, 0, 0, 0⟩, sp := 0, pc := entry.setWidth 16, openBus := 0,
             running := true }

end Sys2Proof.Machine
end

