-- ==== Sys2Proof/Machine/Operands.lean ====
section
/-! DEFINITION. The operand forms: the shifter (42_a32_data_processing.md R280 to R282), the addresses of the
transfers (45_a32_load_store.md R360, R369, R381), what a load makes of the value it read (R364, R371), the multiplier count
(70_reset_and_hazards.md R599) and the multiply results (43_a32_multiply.md). -/

namespace Sys2Proof.Machine

/-! ## The shifter -/

/-- The shifter's value `op2` and carry `sh_c`. -/
structure Shifted where
  value : Word
  carry : Bool
  deriving DecidableEq, Repr

/-- The all-ones or all-zeros word of bit 31. -/
def signFill (m : Word) : Word := if m.getLsbD 31 then 0xFFFFFFFF else 0

/-- `imm32` (R181). -/
def rotImmValue (o : RotImm) : Word := (o.imm.setWidth 32).rotateRight (2 * o.rot.toNat)

/-- The immediate operand (R280). -/
def shiftRotImm (o : RotImm) (c : Bool) : Shifted :=
  ⟨rotImmValue o, if o.rot = 0 then c else (rotImmValue o).getLsbD 31⟩

/-- The immediate-shift table (R281): `m` the register, `n` the amount, `c` the carry flag. -/
def shiftByImm (kind : ShiftKind) (m : Word) (n : Nat) (c : Bool) : Shifted :=
  match kind with
  | .lsl => if n = 0 then ⟨m, c⟩ else ⟨m <<< n, m.getLsbD (32 - n)⟩
  | .lsr => if n = 0 then ⟨0, m.getLsbD 31⟩ else ⟨m >>> n, m.getLsbD (n - 1)⟩
  | .asr => if n = 0 then ⟨signFill m, m.getLsbD 31⟩ else ⟨m.sshiftRight n, m.getLsbD (n - 1)⟩
  | .ror =>
    if n = 0 then ⟨((BitVec.ofBool c).setWidth 32 <<< 31) ||| (m >>> 1), m.getLsbD 0⟩
    else ⟨m.rotateRight n, m.getLsbD (n - 1)⟩

/-- The register-shift table (R282): `a` the low byte of Rs. -/
def shiftByReg (kind : ShiftKind) (m : Word) (a : Nat) (c : Bool) : Shifted :=
  if a = 0 then ⟨m, c⟩
  else
    match kind with
    | .lsl =>
      if a < 32 then ⟨m <<< a, m.getLsbD (32 - a)⟩
      else if a = 32 then ⟨0, m.getLsbD 0⟩
      else ⟨0, false⟩
    | .lsr =>
      if a < 32 then ⟨m >>> a, m.getLsbD (a - 1)⟩
      else if a = 32 then ⟨0, m.getLsbD 31⟩
      else ⟨0, false⟩
    | .asr => if a < 32 then ⟨m.sshiftRight a, m.getLsbD (a - 1)⟩ else ⟨signFill m, m.getLsbD 31⟩
    | .ror =>
      if a % 32 = 0 then ⟨m, m.getLsbD 31⟩ else ⟨m.rotateRight (a % 32), m.getLsbD (a % 32 - 1)⟩

/-- The immediate operand in a state (R280). -/
def rotImmOperand (o : RotImm) (s : State) : Shifted := shiftRotImm o (flagC s.sw)

/-- The immediate-shift operand in a state (R281). -/
def shiftImmOperand (o : ShiftImm) (s : State) : Shifted :=
  shiftByImm o.kind (s.readReg o.rm) o.amount.toNat (flagC s.sw)

/-- The register-shift operand in a state (R282): the amount is R[Rs][7:0] (R184). -/
def shiftRegOperand (o : ShiftReg) (s : State) : Shifted :=
  shiftByReg o.kind (s.readReg o.rm) ((s.readReg o.rs).toNat % 256) (flagC s.sw)

/-! ## Branch targets -/

/-- `BranchTarget` (R182, R260). -/
def branchTarget (s : State) (offset24 : BitVec 24) : Word := s.getX 15 + 8 + (offset24.signExtend 32 <<< 2)

/-- The target of JR (R202, R516): the address after the instruction plus the signed operand byte. -/
def relTarget (s : State) (e : Byte) : Half := s.pc + 2 + e.signExtend 16

/-! ## Transfer addresses -/

/-- The address of an access, the new base, and whether the base is written back (R360, R369). -/
structure Addr where
  addr : Word
  newBase : Word
  writeback : Bool
  deriving DecidableEq, Repr

/-- Base plus or minus offset (R183). -/
def offsetBy (up : Bool) (base off : Word) : Word := if up then base + off else base - off

/-- A pre-indexed address (R360). -/
def preAddr (up wb : Bool) (base off : Word) : Addr := ⟨offsetBy up base off, offsetBy up base off, wb⟩

/-- A post-indexed address, and the T forms' (R360, R368). -/
def postAddr (up : Bool) (base off : Word) : Addr := ⟨base, offsetBy up base off, true⟩

/-- The address of a half-word transfer (R369). -/
def halfAddr (pre up wb : Bool) (base off : Word) : Addr :=
  if pre then preAddr up wb base off else postAddr up base off

/-- The scaled register offset (R361): the carry-out is discarded. -/
def scaledOffset (o : ShiftImm) (s : State) : Word := (shiftImmOperand o s).value

/-- The four kinds of a load's datum that R364, R365, R370, R374 and R375 distinguish. -/
inductive LoadKind where
  | word | byte | half | signedByte | signedHalf
  deriving DecidableEq, Repr

/-- The address a load presents to the Bus and its width (R364, R365, R371). -/
def LoadKind.access (k : LoadKind) (addr : Word) : Word × Width :=
  match k with
  | .word => (addr &&& 0xFFFFFFFC, .word)
  | .byte => (addr, .byte)
  | .half => (addr &&& 0xFFFFFFFE, .half)
  | .signedByte => (addr, .byte)
  | .signedHalf => (addr, if addr.getLsbD 0 then .byte else .half)

/-- The data a load makes of the value it read (R364, R365, R371, R374). -/
def LoadKind.finish (k : LoadKind) (addr v : Word) : Word :=
  match k with
  | .word => v.rotateRight (8 * (addr.toNat % 4))
  | .byte => v
  | .half => v.rotateRight (8 * (addr.toNat % 2))
  | .signedByte => (v.setWidth 8).signExtend 32
  | .signedHalf => if addr.getLsbD 0 then (v.setWidth 8).signExtend 32 else (v.setWidth 16).signExtend 32

/-- The three widths of a store (R366, R367, R373). -/
inductive StoreKind where
  | word | byte | half
  deriving DecidableEq, Repr

/-- The address a store presents to the Bus and its width (R366, R367, R371). -/
def StoreKind.access (k : StoreKind) (addr : Word) : Word × Width :=
  match k with
  | .word => (addr &&& 0xFFFFFFFC, .word)
  | .byte => (addr, .byte)
  | .half => (addr &&& 0xFFFFFFFE, .half)

/-! ## Block transfers -/

/-- The four modes of R381. -/
inductive BlockMode where
  | da | ia | db | ib
  deriving DecidableEq, Repr

/-- The registers of a list, ascending (R183). -/
def registersOf (list : BitVec 16) : List Reg :=
  ((List.range 16).filter (fun i => list.getLsbD i)).map (BitVec.ofNat 4)

/-- `4k`, for `k` registers (R381). -/
def blockBytes (list : BitVec 16) : Word := BitVec.ofNat 32 (4 * (registersOf list).length)

/-- The first address (R381), before its low bits are ignored. -/
def blockFirst (mode : BlockMode) (base : Word) (list : BitVec 16) : Word :=
  match mode with
  | .ia => base
  | .ib => base + 4
  | .da => base - blockBytes list + 4
  | .db => base - blockBytes list

/-- The address of the first access (R381). -/
def blockStart (mode : BlockMode) (base : Word) (list : BitVec 16) : Word :=
  blockFirst mode base list &&& 0xFFFFFFFC

/-- The new base (R381). -/
def blockNewBase (mode : BlockMode) (base : Word) (list : BitVec 16) : Word :=
  match mode with
  | .ia => base + blockBytes list
  | .ib => base + blockBytes list
  | .da => base - blockBytes list
  | .db => base - blockBytes list

/-- Word reads at `a`, `a + 4`, … in that order, one for each register (R382). -/
def loadMany (s : State) (a : Word) : List Reg → Except Fault (List (Reg × Word) × State)
  | [] => .ok ([], s)
  | i :: rest =>
    match s.load a .word with
    | .error f => .error f
    | .ok (v, t) =>
      match loadMany t (a + 4) rest with
      | .error f => .error f
      | .ok (vs, u) => .ok ((i, v) :: vs, u)

/-- Word writes at `a`, `a + 4`, … in that order (R383). -/
def storeMany (s : State) (a : Word) : List Word → Except Fault State
  | [] => .ok s
  | v :: rest =>
    match s.store a .word v with
    | .error f => .error f
    | .ok t => storeMany t (a + 4) rest

/-- `WriteReg` for each pair in order (R382). -/
def writeRegs (s : State) : List (Reg × Word) → State
  | [] => s
  | (i, v) :: rest => writeRegs (s.writeReg i v) rest

/-- The cells that word writes at `a`, `a + 4`, … change. -/
def storedManyCells (cfg : Config) (a : Word) : Nat → List Nat
  | 0 => []
  | n + 1 => storedCells cfg a .word ++ storedManyCells cfg (a + 4) n

/-! ## Multiplies -/

/-- Whether the bits of `v` from `lo` up are all zeros, or all ones where the multiply's count admits that (R599). -/
def uniformAbove (ones : Bool) (v : Word) (lo : Nat) : Bool :=
  v >>> lo == 0 || ones && v.sshiftRight lo == 0xFFFFFFFF

/-- The multiplier-cycle count `m` (R599); `ones` is false for UMULL and UMLAL. -/
def mulCount (ones : Bool) (rs : Word) : Nat :=
  if uniformAbove ones rs 8 then 1
  else if uniformAbove ones rs 16 then 2
  else if uniformAbove ones rs 24 then 3
  else 4

/-- `R[RdHi] << 32 | R[RdLo]` (R335). -/
def hiLo (hi lo : Word) : DWord := hi ++ lo

/-- The exact product of a long multiply, reduced to 64 bits (R334, R336). -/
def longProduct (signed : Bool) (m s : Word) : DWord :=
  if signed then BitVec.ofInt 64 (m.toInt * s.toInt) else BitVec.ofNat 64 (m.toNat * s.toNat)

end Sys2Proof.Machine
end

