-- ==== Sys2Proof/Machine/A32Branch.lean ====
section
/-! DEFINITION. The A32 branches (41_a32_branch.md). -/

namespace Sys2Proof.Machine

/-- B (R261): the target through `WritePC`. -/
def branch (offset24 : BitVec 24) (s : State) : Result := complete .b (s.writeReg 15 (branchTarget s offset24))

/-- BL (R262): R14 takes the address of the next instruction. -/
def branchLink (offset24 : BitVec 24) (s : State) : Result :=
  complete .bl ((s.writeReg 14 (s.getX 15 + 4)).writeReg 15 (branchTarget s offset24))

/-- BX (R263): bit 0 of the operand becomes T, and `WritePC` masks by the new T (R46). -/
def branchExchange (rm : Reg) (s : State) : Result :=
  let v := s.readReg rm
  let t := { s with sw := setBit s.sw 5 (v.getLsbD 0) }
  complete .bx (t.writeReg 15 (v &&& 0xFFFFFFFE))

/-- B (R261). -/
def execB (cond : Cond) (offset24 : BitVec 24) (s : State) : Result :=
  a32Run cond (.b cond offset24) s
    (branch offset24)

/-- BL (R262). -/
def execBl (cond : Cond) (offset24 : BitVec 24) (s : State) : Result :=
  a32Run cond (.bl cond offset24) s
    (branchLink offset24)

/-- BX (R263). -/
def execBx (cond : Cond) (rm : Reg) (s : State) : Result :=
  a32Run cond (.bx cond rm) s
    (branchExchange rm)

end Sys2Proof.Machine
end

