-- ==== Sys2Proof/Machine/A32DataProcessing.lean ====
section
/-! DEFINITION. The A32 data-processing instructions (42_a32_data_processing.md). A compare has
S = 1 and writes no register; a move has no first operand. -/

namespace Sys2Proof.Machine

/-- The common path (R283): the result to Rd unless a compare, the flags when S = 1. The refusal of S = 1 with Rd = 15 is
in `Instr.encodingError`, before any write. -/
def dataProc (op : DpOp) (sf : Bool) (rd : Reg) (n : Word) (o : Shifted) (registerShift : Bool) (s : State) : Result :=
  let out := dpCompute op n o.value o.carry (flagC s.sw)
  let t := s.advance4
  let u := if op.isCompare then t else t.writeReg rd out.value
  let v := if sf then u.setFlagsA32 out.flags else u
  complete (.dataProc registerShift (!op.isCompare && rd == 15)) v

/-- AND (immediate) (R285). -/
def execAndImm (cond : Cond) (sf : Bool) (rn : Reg) (rd : Reg) (op : RotImm) (s : State) : Result :=
  a32Run cond (.andImm cond sf rn rd op) s
    (dataProc .and sf rd (s.readReg rn) (rotImmOperand op s) false)

/-- AND (register, immediate shift) (R285). -/
def execAndShift (cond : Cond) (sf : Bool) (rn : Reg) (rd : Reg) (op : ShiftImm) (s : State) : Result :=
  a32Run cond (.andShift cond sf rn rd op) s
    (dataProc .and sf rd (s.readReg rn) (shiftImmOperand op s) false)

/-- AND (register, register shift) (R285). -/
def execAndShiftReg (cond : Cond) (sf : Bool) (rn : Reg) (rd : Reg) (op : ShiftReg) (s : State) : Result :=
  a32Run cond (.andShiftReg cond sf rn rd op) s
    (dataProc .and sf rd (s.readReg rn) (shiftRegOperand op s) true)

/-- EOR (immediate) (R286). -/
def execEorImm (cond : Cond) (sf : Bool) (rn : Reg) (rd : Reg) (op : RotImm) (s : State) : Result :=
  a32Run cond (.eorImm cond sf rn rd op) s
    (dataProc .eor sf rd (s.readReg rn) (rotImmOperand op s) false)

/-- EOR (register, immediate shift) (R286). -/
def execEorShift (cond : Cond) (sf : Bool) (rn : Reg) (rd : Reg) (op : ShiftImm) (s : State) : Result :=
  a32Run cond (.eorShift cond sf rn rd op) s
    (dataProc .eor sf rd (s.readReg rn) (shiftImmOperand op s) false)

/-- EOR (register, register shift) (R286). -/
def execEorShiftReg (cond : Cond) (sf : Bool) (rn : Reg) (rd : Reg) (op : ShiftReg) (s : State) : Result :=
  a32Run cond (.eorShiftReg cond sf rn rd op) s
    (dataProc .eor sf rd (s.readReg rn) (shiftRegOperand op s) true)

/-- SUB (immediate) (R287). -/
def execSubImm (cond : Cond) (sf : Bool) (rn : Reg) (rd : Reg) (op : RotImm) (s : State) : Result :=
  a32Run cond (.subImm cond sf rn rd op) s
    (dataProc .sub sf rd (s.readReg rn) (rotImmOperand op s) false)

/-- SUB (register, immediate shift) (R287). -/
def execSubShift (cond : Cond) (sf : Bool) (rn : Reg) (rd : Reg) (op : ShiftImm) (s : State) : Result :=
  a32Run cond (.subShift cond sf rn rd op) s
    (dataProc .sub sf rd (s.readReg rn) (shiftImmOperand op s) false)

/-- SUB (register, register shift) (R287). -/
def execSubShiftReg (cond : Cond) (sf : Bool) (rn : Reg) (rd : Reg) (op : ShiftReg) (s : State) : Result :=
  a32Run cond (.subShiftReg cond sf rn rd op) s
    (dataProc .sub sf rd (s.readReg rn) (shiftRegOperand op s) true)

/-- RSB (immediate) (R288). -/
def execRsbImm (cond : Cond) (sf : Bool) (rn : Reg) (rd : Reg) (op : RotImm) (s : State) : Result :=
  a32Run cond (.rsbImm cond sf rn rd op) s
    (dataProc .rsb sf rd (s.readReg rn) (rotImmOperand op s) false)

/-- RSB (register, immediate shift) (R288). -/
def execRsbShift (cond : Cond) (sf : Bool) (rn : Reg) (rd : Reg) (op : ShiftImm) (s : State) : Result :=
  a32Run cond (.rsbShift cond sf rn rd op) s
    (dataProc .rsb sf rd (s.readReg rn) (shiftImmOperand op s) false)

/-- RSB (register, register shift) (R288). -/
def execRsbShiftReg (cond : Cond) (sf : Bool) (rn : Reg) (rd : Reg) (op : ShiftReg) (s : State) : Result :=
  a32Run cond (.rsbShiftReg cond sf rn rd op) s
    (dataProc .rsb sf rd (s.readReg rn) (shiftRegOperand op s) true)

/-- ADD (immediate) (R289). -/
def execAddImm (cond : Cond) (sf : Bool) (rn : Reg) (rd : Reg) (op : RotImm) (s : State) : Result :=
  a32Run cond (.addImm cond sf rn rd op) s
    (dataProc .add sf rd (s.readReg rn) (rotImmOperand op s) false)

/-- ADD (register, immediate shift) (R289). -/
def execAddShift (cond : Cond) (sf : Bool) (rn : Reg) (rd : Reg) (op : ShiftImm) (s : State) : Result :=
  a32Run cond (.addShift cond sf rn rd op) s
    (dataProc .add sf rd (s.readReg rn) (shiftImmOperand op s) false)

/-- ADD (register, register shift) (R289). -/
def execAddShiftReg (cond : Cond) (sf : Bool) (rn : Reg) (rd : Reg) (op : ShiftReg) (s : State) : Result :=
  a32Run cond (.addShiftReg cond sf rn rd op) s
    (dataProc .add sf rd (s.readReg rn) (shiftRegOperand op s) true)

/-- ADC (immediate) (R290). -/
def execAdcImm (cond : Cond) (sf : Bool) (rn : Reg) (rd : Reg) (op : RotImm) (s : State) : Result :=
  a32Run cond (.adcImm cond sf rn rd op) s
    (dataProc .adc sf rd (s.readReg rn) (rotImmOperand op s) false)

/-- ADC (register, immediate shift) (R290). -/
def execAdcShift (cond : Cond) (sf : Bool) (rn : Reg) (rd : Reg) (op : ShiftImm) (s : State) : Result :=
  a32Run cond (.adcShift cond sf rn rd op) s
    (dataProc .adc sf rd (s.readReg rn) (shiftImmOperand op s) false)

/-- ADC (register, register shift) (R290). -/
def execAdcShiftReg (cond : Cond) (sf : Bool) (rn : Reg) (rd : Reg) (op : ShiftReg) (s : State) : Result :=
  a32Run cond (.adcShiftReg cond sf rn rd op) s
    (dataProc .adc sf rd (s.readReg rn) (shiftRegOperand op s) true)

/-- SBC (immediate) (R291). -/
def execSbcImm (cond : Cond) (sf : Bool) (rn : Reg) (rd : Reg) (op : RotImm) (s : State) : Result :=
  a32Run cond (.sbcImm cond sf rn rd op) s
    (dataProc .sbc sf rd (s.readReg rn) (rotImmOperand op s) false)

/-- SBC (register, immediate shift) (R291). -/
def execSbcShift (cond : Cond) (sf : Bool) (rn : Reg) (rd : Reg) (op : ShiftImm) (s : State) : Result :=
  a32Run cond (.sbcShift cond sf rn rd op) s
    (dataProc .sbc sf rd (s.readReg rn) (shiftImmOperand op s) false)

/-- SBC (register, register shift) (R291). -/
def execSbcShiftReg (cond : Cond) (sf : Bool) (rn : Reg) (rd : Reg) (op : ShiftReg) (s : State) : Result :=
  a32Run cond (.sbcShiftReg cond sf rn rd op) s
    (dataProc .sbc sf rd (s.readReg rn) (shiftRegOperand op s) true)

/-- RSC (immediate) (R292). -/
def execRscImm (cond : Cond) (sf : Bool) (rn : Reg) (rd : Reg) (op : RotImm) (s : State) : Result :=
  a32Run cond (.rscImm cond sf rn rd op) s
    (dataProc .rsc sf rd (s.readReg rn) (rotImmOperand op s) false)

/-- RSC (register, immediate shift) (R292). -/
def execRscShift (cond : Cond) (sf : Bool) (rn : Reg) (rd : Reg) (op : ShiftImm) (s : State) : Result :=
  a32Run cond (.rscShift cond sf rn rd op) s
    (dataProc .rsc sf rd (s.readReg rn) (shiftImmOperand op s) false)

/-- RSC (register, register shift) (R292). -/
def execRscShiftReg (cond : Cond) (sf : Bool) (rn : Reg) (rd : Reg) (op : ShiftReg) (s : State) : Result :=
  a32Run cond (.rscShiftReg cond sf rn rd op) s
    (dataProc .rsc sf rd (s.readReg rn) (shiftRegOperand op s) true)

/-- TST (immediate) (R293). -/
def execTstImm (cond : Cond) (rn : Reg) (op : RotImm) (s : State) : Result :=
  a32Run cond (.tstImm cond rn op) s
    (dataProc .tst true 0 (s.readReg rn) (rotImmOperand op s) false)

/-- TST (register, immediate shift) (R293). -/
def execTstShift (cond : Cond) (rn : Reg) (op : ShiftImm) (s : State) : Result :=
  a32Run cond (.tstShift cond rn op) s
    (dataProc .tst true 0 (s.readReg rn) (shiftImmOperand op s) false)

/-- TST (register, register shift) (R293). -/
def execTstShiftReg (cond : Cond) (rn : Reg) (op : ShiftReg) (s : State) : Result :=
  a32Run cond (.tstShiftReg cond rn op) s
    (dataProc .tst true 0 (s.readReg rn) (shiftRegOperand op s) true)

/-- TEQ (immediate) (R294). -/
def execTeqImm (cond : Cond) (rn : Reg) (op : RotImm) (s : State) : Result :=
  a32Run cond (.teqImm cond rn op) s
    (dataProc .teq true 0 (s.readReg rn) (rotImmOperand op s) false)

/-- TEQ (register, immediate shift) (R294). -/
def execTeqShift (cond : Cond) (rn : Reg) (op : ShiftImm) (s : State) : Result :=
  a32Run cond (.teqShift cond rn op) s
    (dataProc .teq true 0 (s.readReg rn) (shiftImmOperand op s) false)

/-- TEQ (register, register shift) (R294). -/
def execTeqShiftReg (cond : Cond) (rn : Reg) (op : ShiftReg) (s : State) : Result :=
  a32Run cond (.teqShiftReg cond rn op) s
    (dataProc .teq true 0 (s.readReg rn) (shiftRegOperand op s) true)

/-- CMP (immediate) (R295). -/
def execCmpImm (cond : Cond) (rn : Reg) (op : RotImm) (s : State) : Result :=
  a32Run cond (.cmpImm cond rn op) s
    (dataProc .cmp true 0 (s.readReg rn) (rotImmOperand op s) false)

/-- CMP (register, immediate shift) (R295). -/
def execCmpShift (cond : Cond) (rn : Reg) (op : ShiftImm) (s : State) : Result :=
  a32Run cond (.cmpShift cond rn op) s
    (dataProc .cmp true 0 (s.readReg rn) (shiftImmOperand op s) false)

/-- CMP (register, register shift) (R295). -/
def execCmpShiftReg (cond : Cond) (rn : Reg) (op : ShiftReg) (s : State) : Result :=
  a32Run cond (.cmpShiftReg cond rn op) s
    (dataProc .cmp true 0 (s.readReg rn) (shiftRegOperand op s) true)

/-- CMN (immediate) (R296). -/
def execCmnImm (cond : Cond) (rn : Reg) (op : RotImm) (s : State) : Result :=
  a32Run cond (.cmnImm cond rn op) s
    (dataProc .cmn true 0 (s.readReg rn) (rotImmOperand op s) false)

/-- CMN (register, immediate shift) (R296). -/
def execCmnShift (cond : Cond) (rn : Reg) (op : ShiftImm) (s : State) : Result :=
  a32Run cond (.cmnShift cond rn op) s
    (dataProc .cmn true 0 (s.readReg rn) (shiftImmOperand op s) false)

/-- CMN (register, register shift) (R296). -/
def execCmnShiftReg (cond : Cond) (rn : Reg) (op : ShiftReg) (s : State) : Result :=
  a32Run cond (.cmnShiftReg cond rn op) s
    (dataProc .cmn true 0 (s.readReg rn) (shiftRegOperand op s) true)

/-- ORR (immediate) (R297). -/
def execOrrImm (cond : Cond) (sf : Bool) (rn : Reg) (rd : Reg) (op : RotImm) (s : State) : Result :=
  a32Run cond (.orrImm cond sf rn rd op) s
    (dataProc .orr sf rd (s.readReg rn) (rotImmOperand op s) false)

/-- ORR (register, immediate shift) (R297). -/
def execOrrShift (cond : Cond) (sf : Bool) (rn : Reg) (rd : Reg) (op : ShiftImm) (s : State) : Result :=
  a32Run cond (.orrShift cond sf rn rd op) s
    (dataProc .orr sf rd (s.readReg rn) (shiftImmOperand op s) false)

/-- ORR (register, register shift) (R297). -/
def execOrrShiftReg (cond : Cond) (sf : Bool) (rn : Reg) (rd : Reg) (op : ShiftReg) (s : State) : Result :=
  a32Run cond (.orrShiftReg cond sf rn rd op) s
    (dataProc .orr sf rd (s.readReg rn) (shiftRegOperand op s) true)

/-- MOV (immediate) (R298). -/
def execMovImm (cond : Cond) (sf : Bool) (rd : Reg) (op : RotImm) (s : State) : Result :=
  a32Run cond (.movImm cond sf rd op) s
    (dataProc .mov sf rd 0 (rotImmOperand op s) false)

/-- MOV (register, immediate shift) (R298). -/
def execMovShift (cond : Cond) (sf : Bool) (rd : Reg) (op : ShiftImm) (s : State) : Result :=
  a32Run cond (.movShift cond sf rd op) s
    (dataProc .mov sf rd 0 (shiftImmOperand op s) false)

/-- MOV (register, register shift) (R298). -/
def execMovShiftReg (cond : Cond) (sf : Bool) (rd : Reg) (op : ShiftReg) (s : State) : Result :=
  a32Run cond (.movShiftReg cond sf rd op) s
    (dataProc .mov sf rd 0 (shiftRegOperand op s) true)

/-- BIC (immediate) (R299). -/
def execBicImm (cond : Cond) (sf : Bool) (rn : Reg) (rd : Reg) (op : RotImm) (s : State) : Result :=
  a32Run cond (.bicImm cond sf rn rd op) s
    (dataProc .bic sf rd (s.readReg rn) (rotImmOperand op s) false)

/-- BIC (register, immediate shift) (R299). -/
def execBicShift (cond : Cond) (sf : Bool) (rn : Reg) (rd : Reg) (op : ShiftImm) (s : State) : Result :=
  a32Run cond (.bicShift cond sf rn rd op) s
    (dataProc .bic sf rd (s.readReg rn) (shiftImmOperand op s) false)

/-- BIC (register, register shift) (R299). -/
def execBicShiftReg (cond : Cond) (sf : Bool) (rn : Reg) (rd : Reg) (op : ShiftReg) (s : State) : Result :=
  a32Run cond (.bicShiftReg cond sf rn rd op) s
    (dataProc .bic sf rd (s.readReg rn) (shiftRegOperand op s) true)

/-- MVN (immediate) (R300). -/
def execMvnImm (cond : Cond) (sf : Bool) (rd : Reg) (op : RotImm) (s : State) : Result :=
  a32Run cond (.mvnImm cond sf rd op) s
    (dataProc .mvn sf rd 0 (rotImmOperand op s) false)

/-- MVN (register, immediate shift) (R300). -/
def execMvnShift (cond : Cond) (sf : Bool) (rd : Reg) (op : ShiftImm) (s : State) : Result :=
  a32Run cond (.mvnShift cond sf rd op) s
    (dataProc .mvn sf rd 0 (shiftImmOperand op s) false)

/-- MVN (register, register shift) (R300). -/
def execMvnShiftReg (cond : Cond) (sf : Bool) (rd : Reg) (op : ShiftReg) (s : State) : Result :=
  a32Run cond (.mvnShiftReg cond sf rd op) s
    (dataProc .mvn sf rd 0 (shiftRegOperand op s) true)

end Sys2Proof.Machine
end

