-- ==== Sys2Proof/Machine/A32LoadStore.lean ====
section
/-! DEFINITION. The A32 loads, stores, block transfers and swaps (45_a32_load_store.md). -/

namespace Sys2Proof.Machine

/-- A load (R360, R364, R365, R369 to R375): the read, the write-back, then Rd. -/
def loadSingle (k : LoadKind) (rd rn : Reg) (m : Addr) (s : State) : Result :=
  andThen (s.load (k.access m.addr).1 (k.access m.addr).2) fun r =>
    let t := r.2.advance4
    let u := if m.writeback then t.writeReg rn m.newBase else t
    complete (.load (rd == 15)) (u.writeReg rd (k.finish m.addr r.1))

/-- A store (R360, R362, R366, R367, R369, R373): the write, then the write-back. -/
def storeSingle (k : StoreKind) (rd rn : Reg) (m : Addr) (s : State) : Result :=
  andThen (s.store (k.access m.addr).1 (k.access m.addr).2 (s.storeValue rd)) fun r =>
    let t := r.advance4
    complete .store (if m.writeback then t.writeReg rn m.newBase else t)

/-- LDM (R381, R382): the reads in ascending order, the write-back, then the registers of the list. -/
def loadMultiple (mode : BlockMode) (wb : Bool) (rn : Reg) (list : BitVec 16) (s : State) : Result :=
  let base := s.readReg rn
  andThen (loadMany s (blockStart mode base list) (registersOf list)) fun r =>
    let t := r.2.advance4
    let u := if wb then t.writeReg rn (blockNewBase mode base list) else t
    complete (.ldm (registersOf list).length (inList list 15)) (writeRegs u r.1)

/-- STM (R362, R381, R383): the writes in ascending order of the values as at the start, then the write-back. -/
def storeMultiple (mode : BlockMode) (wb : Bool) (rn : Reg) (list : BitVec 16) (s : State) : Result :=
  let base := s.readReg rn
  andThen (storeMany s (blockStart mode base list) ((registersOf list).map s.storeValue)) fun r =>
    let t := r.advance4
    complete (.stm (registersOf list).length) (if wb then t.writeReg rn (blockNewBase mode base list) else t)

/-- SWP and SWPB (R390, R391): the read, the write of Rm as at the start, then Rd. -/
def swap (k : LoadKind) (rn rd rm : Reg) (s : State) : Result :=
  let addr := s.readReg rn
  andThen (s.load (k.access addr).1 (k.access addr).2) fun r =>
    andThen (r.2.store (k.access addr).1 (k.access addr).2 (s.readReg rm)) fun t =>
      complete .swap (t.advance4.writeReg rd (k.finish addr r.1))

/-- SWP (R390). -/
def execSwp (cond : Cond) (rn : Reg) (rd : Reg) (rm : Reg) (s : State) : Result :=
  a32Run cond (.swp cond rn rd rm) s
    (swap .word rn rd rm)

/-- SWPB (R391). -/
def execSwpb (cond : Cond) (rn : Reg) (rd : Reg) (rm : Reg) (s : State) : Result :=
  a32Run cond (.swpb cond rn rd rm) s
    (swap .byte rn rd rm)

/-- LDR (immediate offset, pre-indexed) (R364). -/
def execLdrImmPre (cond : Cond) (up : Bool) (wb : Bool) (rn : Reg) (rd : Reg) (imm12 : BitVec 12) (s : State) : Result :=
  a32Run cond (.ldrImmPre cond up wb rn rd imm12) s
    (loadSingle .word rd rn (preAddr up wb (s.readReg rn) (imm12.setWidth 32)))

/-- LDR (immediate offset, post-indexed) (R364). -/
def execLdrImmPost (cond : Cond) (up : Bool) (rn : Reg) (rd : Reg) (imm12 : BitVec 12) (s : State) : Result :=
  a32Run cond (.ldrImmPost cond up rn rd imm12) s
    (loadSingle .word rd rn (postAddr up (s.readReg rn) (imm12.setWidth 32)))

/-- LDR (register offset, pre-indexed) (R364). -/
def execLdrRegPre (cond : Cond) (up : Bool) (wb : Bool) (rn : Reg) (rd : Reg) (op : ShiftImm) (s : State) : Result :=
  a32Run cond (.ldrRegPre cond up wb rn rd op) s
    (loadSingle .word rd rn (preAddr up wb (s.readReg rn) (scaledOffset op s)))

/-- LDR (register offset, post-indexed) (R364). -/
def execLdrRegPost (cond : Cond) (up : Bool) (rn : Reg) (rd : Reg) (op : ShiftImm) (s : State) : Result :=
  a32Run cond (.ldrRegPost cond up rn rd op) s
    (loadSingle .word rd rn (postAddr up (s.readReg rn) (scaledOffset op s)))

/-- LDRT (immediate offset) (R368). -/
def execLdrtImm (cond : Cond) (up : Bool) (rn : Reg) (rd : Reg) (imm12 : BitVec 12) (s : State) : Result :=
  a32Run cond (.ldrtImm cond up rn rd imm12) s
    (loadSingle .word rd rn (postAddr up (s.readReg rn) (imm12.setWidth 32)))

/-- LDRT (register offset) (R368). -/
def execLdrtReg (cond : Cond) (up : Bool) (rn : Reg) (rd : Reg) (op : ShiftImm) (s : State) : Result :=
  a32Run cond (.ldrtReg cond up rn rd op) s
    (loadSingle .word rd rn (postAddr up (s.readReg rn) (scaledOffset op s)))

/-- LDRB (immediate offset, pre-indexed) (R365). -/
def execLdrbImmPre (cond : Cond) (up : Bool) (wb : Bool) (rn : Reg) (rd : Reg) (imm12 : BitVec 12) (s : State) : Result :=
  a32Run cond (.ldrbImmPre cond up wb rn rd imm12) s
    (loadSingle .byte rd rn (preAddr up wb (s.readReg rn) (imm12.setWidth 32)))

/-- LDRB (immediate offset, post-indexed) (R365). -/
def execLdrbImmPost (cond : Cond) (up : Bool) (rn : Reg) (rd : Reg) (imm12 : BitVec 12) (s : State) : Result :=
  a32Run cond (.ldrbImmPost cond up rn rd imm12) s
    (loadSingle .byte rd rn (postAddr up (s.readReg rn) (imm12.setWidth 32)))

/-- LDRB (register offset, pre-indexed) (R365). -/
def execLdrbRegPre (cond : Cond) (up : Bool) (wb : Bool) (rn : Reg) (rd : Reg) (op : ShiftImm) (s : State) : Result :=
  a32Run cond (.ldrbRegPre cond up wb rn rd op) s
    (loadSingle .byte rd rn (preAddr up wb (s.readReg rn) (scaledOffset op s)))

/-- LDRB (register offset, post-indexed) (R365). -/
def execLdrbRegPost (cond : Cond) (up : Bool) (rn : Reg) (rd : Reg) (op : ShiftImm) (s : State) : Result :=
  a32Run cond (.ldrbRegPost cond up rn rd op) s
    (loadSingle .byte rd rn (postAddr up (s.readReg rn) (scaledOffset op s)))

/-- LDRBT (immediate offset) (R368). -/
def execLdrbtImm (cond : Cond) (up : Bool) (rn : Reg) (rd : Reg) (imm12 : BitVec 12) (s : State) : Result :=
  a32Run cond (.ldrbtImm cond up rn rd imm12) s
    (loadSingle .byte rd rn (postAddr up (s.readReg rn) (imm12.setWidth 32)))

/-- LDRBT (register offset) (R368). -/
def execLdrbtReg (cond : Cond) (up : Bool) (rn : Reg) (rd : Reg) (op : ShiftImm) (s : State) : Result :=
  a32Run cond (.ldrbtReg cond up rn rd op) s
    (loadSingle .byte rd rn (postAddr up (s.readReg rn) (scaledOffset op s)))

/-- STR (immediate offset, pre-indexed) (R366). -/
def execStrImmPre (cond : Cond) (up : Bool) (wb : Bool) (rn : Reg) (rd : Reg) (imm12 : BitVec 12) (s : State) : Result :=
  a32Run cond (.strImmPre cond up wb rn rd imm12) s
    (storeSingle .word rd rn (preAddr up wb (s.readReg rn) (imm12.setWidth 32)))

/-- STR (immediate offset, post-indexed) (R366). -/
def execStrImmPost (cond : Cond) (up : Bool) (rn : Reg) (rd : Reg) (imm12 : BitVec 12) (s : State) : Result :=
  a32Run cond (.strImmPost cond up rn rd imm12) s
    (storeSingle .word rd rn (postAddr up (s.readReg rn) (imm12.setWidth 32)))

/-- STR (register offset, pre-indexed) (R366). -/
def execStrRegPre (cond : Cond) (up : Bool) (wb : Bool) (rn : Reg) (rd : Reg) (op : ShiftImm) (s : State) : Result :=
  a32Run cond (.strRegPre cond up wb rn rd op) s
    (storeSingle .word rd rn (preAddr up wb (s.readReg rn) (scaledOffset op s)))

/-- STR (register offset, post-indexed) (R366). -/
def execStrRegPost (cond : Cond) (up : Bool) (rn : Reg) (rd : Reg) (op : ShiftImm) (s : State) : Result :=
  a32Run cond (.strRegPost cond up rn rd op) s
    (storeSingle .word rd rn (postAddr up (s.readReg rn) (scaledOffset op s)))

/-- STRT (immediate offset) (R368). -/
def execStrtImm (cond : Cond) (up : Bool) (rn : Reg) (rd : Reg) (imm12 : BitVec 12) (s : State) : Result :=
  a32Run cond (.strtImm cond up rn rd imm12) s
    (storeSingle .word rd rn (postAddr up (s.readReg rn) (imm12.setWidth 32)))

/-- STRT (register offset) (R368). -/
def execStrtReg (cond : Cond) (up : Bool) (rn : Reg) (rd : Reg) (op : ShiftImm) (s : State) : Result :=
  a32Run cond (.strtReg cond up rn rd op) s
    (storeSingle .word rd rn (postAddr up (s.readReg rn) (scaledOffset op s)))

/-- STRB (immediate offset, pre-indexed) (R367). -/
def execStrbImmPre (cond : Cond) (up : Bool) (wb : Bool) (rn : Reg) (rd : Reg) (imm12 : BitVec 12) (s : State) : Result :=
  a32Run cond (.strbImmPre cond up wb rn rd imm12) s
    (storeSingle .byte rd rn (preAddr up wb (s.readReg rn) (imm12.setWidth 32)))

/-- STRB (immediate offset, post-indexed) (R367). -/
def execStrbImmPost (cond : Cond) (up : Bool) (rn : Reg) (rd : Reg) (imm12 : BitVec 12) (s : State) : Result :=
  a32Run cond (.strbImmPost cond up rn rd imm12) s
    (storeSingle .byte rd rn (postAddr up (s.readReg rn) (imm12.setWidth 32)))

/-- STRB (register offset, pre-indexed) (R367). -/
def execStrbRegPre (cond : Cond) (up : Bool) (wb : Bool) (rn : Reg) (rd : Reg) (op : ShiftImm) (s : State) : Result :=
  a32Run cond (.strbRegPre cond up wb rn rd op) s
    (storeSingle .byte rd rn (preAddr up wb (s.readReg rn) (scaledOffset op s)))

/-- STRB (register offset, post-indexed) (R367). -/
def execStrbRegPost (cond : Cond) (up : Bool) (rn : Reg) (rd : Reg) (op : ShiftImm) (s : State) : Result :=
  a32Run cond (.strbRegPost cond up rn rd op) s
    (storeSingle .byte rd rn (postAddr up (s.readReg rn) (scaledOffset op s)))

/-- STRBT (immediate offset) (R368). -/
def execStrbtImm (cond : Cond) (up : Bool) (rn : Reg) (rd : Reg) (imm12 : BitVec 12) (s : State) : Result :=
  a32Run cond (.strbtImm cond up rn rd imm12) s
    (storeSingle .byte rd rn (postAddr up (s.readReg rn) (imm12.setWidth 32)))

/-- STRBT (register offset) (R368). -/
def execStrbtReg (cond : Cond) (up : Bool) (rn : Reg) (rd : Reg) (op : ShiftImm) (s : State) : Result :=
  a32Run cond (.strbtReg cond up rn rd op) s
    (storeSingle .byte rd rn (postAddr up (s.readReg rn) (scaledOffset op s)))

/-- LDRH (immediate offset) (R370). -/
def execLdrhImm (cond : Cond) (pre : Bool) (up : Bool) (wb : Bool) (rn : Reg) (rd : Reg) (imm8 : Byte) (s : State) : Result :=
  a32Run cond (.ldrhImm cond pre up wb rn rd imm8) s
    (loadSingle .half rd rn (halfAddr pre up wb (s.readReg rn) (imm8.setWidth 32)))

/-- LDRH (register offset) (R370). -/
def execLdrhReg (cond : Cond) (pre : Bool) (up : Bool) (wb : Bool) (rn : Reg) (rd : Reg) (rm : Reg) (s : State) : Result :=
  a32Run cond (.ldrhReg cond pre up wb rn rd rm) s
    (loadSingle .half rd rn (halfAddr pre up wb (s.readReg rn) (s.readReg rm)))

/-- STRH (immediate offset) (R373). -/
def execStrhImm (cond : Cond) (pre : Bool) (up : Bool) (wb : Bool) (rn : Reg) (rd : Reg) (imm8 : Byte) (s : State) : Result :=
  a32Run cond (.strhImm cond pre up wb rn rd imm8) s
    (storeSingle .half rd rn (halfAddr pre up wb (s.readReg rn) (imm8.setWidth 32)))

/-- STRH (register offset) (R373). -/
def execStrhReg (cond : Cond) (pre : Bool) (up : Bool) (wb : Bool) (rn : Reg) (rd : Reg) (rm : Reg) (s : State) : Result :=
  a32Run cond (.strhReg cond pre up wb rn rd rm) s
    (storeSingle .half rd rn (halfAddr pre up wb (s.readReg rn) (s.readReg rm)))

/-- LDRSB (immediate offset) (R374). -/
def execLdrsbImm (cond : Cond) (pre : Bool) (up : Bool) (wb : Bool) (rn : Reg) (rd : Reg) (imm8 : Byte) (s : State) : Result :=
  a32Run cond (.ldrsbImm cond pre up wb rn rd imm8) s
    (loadSingle .signedByte rd rn (halfAddr pre up wb (s.readReg rn) (imm8.setWidth 32)))

/-- LDRSB (register offset) (R374). -/
def execLdrsbReg (cond : Cond) (pre : Bool) (up : Bool) (wb : Bool) (rn : Reg) (rd : Reg) (rm : Reg) (s : State) : Result :=
  a32Run cond (.ldrsbReg cond pre up wb rn rd rm) s
    (loadSingle .signedByte rd rn (halfAddr pre up wb (s.readReg rn) (s.readReg rm)))

/-- LDRSH (immediate offset) (R375). -/
def execLdrshImm (cond : Cond) (pre : Bool) (up : Bool) (wb : Bool) (rn : Reg) (rd : Reg) (imm8 : Byte) (s : State) : Result :=
  a32Run cond (.ldrshImm cond pre up wb rn rd imm8) s
    (loadSingle .signedHalf rd rn (halfAddr pre up wb (s.readReg rn) (imm8.setWidth 32)))

/-- LDRSH (register offset) (R375). -/
def execLdrshReg (cond : Cond) (pre : Bool) (up : Bool) (wb : Bool) (rn : Reg) (rd : Reg) (rm : Reg) (s : State) : Result :=
  a32Run cond (.ldrshReg cond pre up wb rn rd rm) s
    (loadSingle .signedHalf rd rn (halfAddr pre up wb (s.readReg rn) (s.readReg rm)))

/-- LDMDA (R382). -/
def execLdmda (cond : Cond) (wb : Bool) (rn : Reg) (list : BitVec 16) (s : State) : Result :=
  a32Run cond (.ldmda cond wb rn list) s
    (loadMultiple .da wb rn list)

/-- LDMIA (R382). -/
def execLdmia (cond : Cond) (wb : Bool) (rn : Reg) (list : BitVec 16) (s : State) : Result :=
  a32Run cond (.ldmia cond wb rn list) s
    (loadMultiple .ia wb rn list)

/-- LDMDB (R382). -/
def execLdmdb (cond : Cond) (wb : Bool) (rn : Reg) (list : BitVec 16) (s : State) : Result :=
  a32Run cond (.ldmdb cond wb rn list) s
    (loadMultiple .db wb rn list)

/-- LDMIB (R382). -/
def execLdmib (cond : Cond) (wb : Bool) (rn : Reg) (list : BitVec 16) (s : State) : Result :=
  a32Run cond (.ldmib cond wb rn list) s
    (loadMultiple .ib wb rn list)

/-- STMDA (R383). -/
def execStmda (cond : Cond) (wb : Bool) (rn : Reg) (list : BitVec 16) (s : State) : Result :=
  a32Run cond (.stmda cond wb rn list) s
    (storeMultiple .da wb rn list)

/-- STMIA (R383). -/
def execStmia (cond : Cond) (wb : Bool) (rn : Reg) (list : BitVec 16) (s : State) : Result :=
  a32Run cond (.stmia cond wb rn list) s
    (storeMultiple .ia wb rn list)

/-- STMDB (R383). -/
def execStmdb (cond : Cond) (wb : Bool) (rn : Reg) (list : BitVec 16) (s : State) : Result :=
  a32Run cond (.stmdb cond wb rn list) s
    (storeMultiple .db wb rn list)

/-- STMIB (R383). -/
def execStmib (cond : Cond) (wb : Bool) (rn : Reg) (list : BitVec 16) (s : State) : Result :=
  a32Run cond (.stmib cond wb rn list) s
    (storeMultiple .ib wb rn list)

end Sys2Proof.Machine
end

