-- ==== Sys2Proof/Machine/A32Multiply.lean ====
section
/-! DEFINITION. The A32 multiplies (43_a32_multiply.md). -/

namespace Sys2Proof.Machine

/-- MUL and MLA (R332, R333): the result to Rd; with S = 1 the flags of R331, C a fresh draw. -/
def multiply (sf : Bool) (rd : Reg) (value : Word) (row : CostRow) (s : State) : Result :=
  let t := s.advance4.writeReg rd value
  complete row (if sf then { t.setFlagsA32 (mulFlags value s.draws) with draws := s.draws + 1 } else t)

/-- The long multiplies (R334 to R337): the low word to RdLo, the high word to RdHi; with S = 1 the flags of R331, C and
V fresh draws. -/
def multiplyLong (sf : Bool) (rdHi rdLo : Reg) (value : DWord) (row : CostRow) (s : State) : Result :=
  let t := (s.advance4.writeReg rdLo (value.extractLsb' 0 32)).writeReg rdHi (value.extractLsb' 32 32)
  complete row (if sf then { t.setFlagsA32 (mulLongFlags value s.draws) with draws := s.draws + 2 } else t)

/-- MUL (R332). -/
def execMul (cond : Cond) (sf : Bool) (rd : Reg) (rs : Reg) (rm : Reg) (s : State) : Result :=
  a32Run cond (.mul cond sf rd rs rm) s
    (multiply sf rd (s.readReg rm * s.readReg rs) (.mul (mulCount true (s.readReg rs))))

/-- MLA (R333). -/
def execMla (cond : Cond) (sf : Bool) (rd : Reg) (rn : Reg) (rs : Reg) (rm : Reg) (s : State) : Result :=
  a32Run cond (.mla cond sf rd rn rs rm) s
    (multiply sf rd (s.readReg rm * s.readReg rs + s.readReg rn) (.mla (mulCount true (s.readReg rs))))

/-- UMULL (R334). -/
def execUmull (cond : Cond) (sf : Bool) (rdHi : Reg) (rdLo : Reg) (rs : Reg) (rm : Reg) (s : State) : Result :=
  a32Run cond (.umull cond sf rdHi rdLo rs rm) s
    (multiplyLong sf rdHi rdLo (longProduct false (s.readReg rm) (s.readReg rs))
      (.longMul (mulCount false (s.readReg rs))))

/-- UMLAL (R335). -/
def execUmlal (cond : Cond) (sf : Bool) (rdHi : Reg) (rdLo : Reg) (rs : Reg) (rm : Reg) (s : State) : Result :=
  a32Run cond (.umlal cond sf rdHi rdLo rs rm) s
    (multiplyLong sf rdHi rdLo (longProduct false (s.readReg rm) (s.readReg rs) + hiLo (s.readReg rdHi) (s.readReg rdLo))
      (.longMla (mulCount false (s.readReg rs))))

/-- SMULL (R336). -/
def execSmull (cond : Cond) (sf : Bool) (rdHi : Reg) (rdLo : Reg) (rs : Reg) (rm : Reg) (s : State) : Result :=
  a32Run cond (.smull cond sf rdHi rdLo rs rm) s
    (multiplyLong sf rdHi rdLo (longProduct true (s.readReg rm) (s.readReg rs))
      (.longMul (mulCount true (s.readReg rs))))

/-- SMLAL (R337). -/
def execSmlal (cond : Cond) (sf : Bool) (rdHi : Reg) (rdLo : Reg) (rs : Reg) (rm : Reg) (s : State) : Result :=
  a32Run cond (.smlal cond sf rdHi rdLo rs rm) s
    (multiplyLong sf rdHi rdLo (longProduct true (s.readReg rm) (s.readReg rs) + hiLo (s.readReg rdHi) (s.readReg rdLo))
      (.longMla (mulCount true (s.readReg rs))))

end Sys2Proof.Machine
end

