-- ==== Sys2Proof/Machine/A32Status.lean ====
section
/-! DEFINITION. MRS and MSR (44_a32_status_transfer.md). -/

namespace Sys2Proof.Machine

/-- MRS (R350): all 32 bits of the status word. -/
def moveFromStatus (rd : Reg) (s : State) : Result := complete .mrs (s.advance4.writeReg rd s.sw)

/-- MSR (R351 to R353): `StatusWrite`, which refuses a change of M[4:0] with `InvalidModeError`. -/
def moveToStatus (mask : BitVec 4) (v : Word) (s : State) : Result :=
  let new := statusWrite s.sw mask v
  if modeBits new = modeBits s.sw then complete .msr { s.advance4 with sw := new }
  else .fault (.invalidMode s.site (.mode (modeBits new)))

/-- MRS (R350). -/
def execMrs (cond : Cond) (rd : Reg) (s : State) : Result :=
  a32Run cond (.mrs cond rd) s
    (moveFromStatus rd)

/-- MSR (register) (R351). -/
def execMsrReg (cond : Cond) (mask : BitVec 4) (rm : Reg) (s : State) : Result :=
  a32Run cond (.msrReg cond mask rm) s
    (moveToStatus mask (s.readReg rm))

/-- MSR (immediate) (R353). -/
def execMsrImm (cond : Cond) (mask : BitVec 4) (op : RotImm) (s : State) : Result :=
  a32Run cond (.msrImm cond mask op) s
    (moveToStatus mask (rotImmValue op))

end Sys2Proof.Machine
end

