-- ==== Sys2Proof/Machine/N8Common.lean ====
section
/-! DEFINITION. How an N8 instruction that does not branch ends (40_step_and_dispatch.md R233). -/

namespace Sys2Proof.Machine

/-- PC past the instruction (R233), then the end of the step. -/
def n8Done (len : Nat) (row : CostRow) (s : State) : Result := complete row (s.advanceN8 len)

end Sys2Proof.Machine
end

