-- ==== Sys2Proof/Machine/N8Alu.lean ====
section
/-! DEFINITION. The N8 arithmetic, logic, rotate and flag instructions (47_n8_alu.md). -/

namespace Sys2Proof.Machine

/-- An 8-bit result to a register, with its flags. -/
def State.apply8 (s : State) (r : R8) (o : Out8) : State := (s.set8 r o.value).setFlagsN8 o.flags

/-- An ALU operation on A and a source (R441 to R448). -/
def State.alu (s : State) (op : AluOp) (src : Byte) : State :=
  s.apply8 .a (aluCompute op (s.get8 .a) src (fC s.n8.f))

/-- ALU, register source (R440). -/
def aluReg (op : AluOp) (r : R8) (s : State) : Result := n8Done 1 .aluR (s.alu op (s.get8 r))

/-- ALU, source (HL) (R440). -/
def aluHl (op : AluOp) (s : State) : Result :=
  andThen (s.load8 (s.getPair .hl)) fun r => n8Done 1 .aluHL (r.2.alu op r.1)

/-- ALU, source d8 (R440). -/
def aluByte (op : AluOp) (d8 : Byte) (s : State) : Result := n8Done 2 .aluD8 (s.alu op d8)

/-- INC r (R449). -/
def incReg (r : R8) (s : State) : Result := n8Done 1 .incDecR (s.apply8 r (inc8 (s.get8 r)))

/-- DEC r (R451). -/
def decReg (r : R8) (s : State) : Result := n8Done 1 .incDecR (s.apply8 r (dec8 (s.get8 r)))

/-- The read-modify-write of the byte at HL with its flags (R238): one read, then one write. -/
def modifyHl (f : Byte → Out8) (len : Nat) (row : CostRow) (s : State) : Result :=
  andThen (s.load8 (s.getPair .hl)) fun r =>
    andThen (r.2.store8 (s.getPair .hl) (f r.1).value) fun t => n8Done len row (t.setFlagsN8 (f r.1).flags)

/-- INC (HL) (R450). -/
def incHl (s : State) : Result := modifyHl inc8 1 .incDecHL s

/-- DEC (HL) (R452). -/
def decHl (s : State) : Result := modifyHl dec8 1 .incDecHL s

/-- INC rr and DEC rr (R453, R454). -/
def step16 (r : R16) (step : Half) (s : State) : Result := n8Done 1 .incDecR16 (s.set16 r (s.get16 r + step))

/-- ADD HL, rr (R455). -/
def addHl (r : R16) (s : State) : Result :=
  let o := addHl16 (s.getPair .hl) (s.get16 r)
  n8Done 1 .addHL ((s.setPair .hl o.value).setFlagsN8 o.flags)

/-- ADD SP, e8 (R456). -/
def addSp (e8 : Byte) (s : State) : Result :=
  let o := addSp16 s.sp e8
  n8Done 2 .addSP ({ s with sp := o.value }.setFlagsN8 o.flags)

/-- LD HL, SP+e8 (R457). -/
def ldHlSp (e8 : Byte) (s : State) : Result :=
  let o := addSp16 s.sp e8
  n8Done 2 .ldHLSP ((s.setPair .hl o.value).setFlagsN8 o.flags)

/-- DAA (R458). -/
def decimalAdjust (s : State) : Result := n8Done 1 .adjust (s.apply8 .a (daa8 (s.get8 .a) s.n8.f))

/-- CPL (R459). -/
def complementA (s : State) : Result :=
  n8Done 1 .adjust (s.apply8 .a ⟨s.get8 .a ^^^ 0xFF, { n := some true, h := some true }⟩)

/-- SCF (R460). -/
def setCarry (s : State) : Result :=
  n8Done 1 .adjust (s.setFlagsN8 { n := some false, h := some false, c := some true })

/-- CCF (R461). -/
def complementCarry (s : State) : Result :=
  n8Done 1 .adjust (s.setFlagsN8 { n := some false, h := some false, c := some (!fC s.n8.f) })

/-- RLCA, RRCA, RLA, RRA (R462 to R465). -/
def rotA (op : RotOp) (s : State) : Result :=
  n8Done 1 .rotA (s.apply8 .a (accRot8 op (s.get8 .a) (fC s.n8.f)))

/-- INC BC (R453). -/
def execInc_bc (s : State) : Result :=
  step16 .bc 1 s

/-- INC B (R449). -/
def execInc_b (s : State) : Result :=
  incReg .b s

/-- DEC B (R451). -/
def execDec_b (s : State) : Result :=
  decReg .b s

/-- RLCA (R462). -/
def execRlca (s : State) : Result :=
  rotA .rlc s

/-- ADD HL,BC (R455). -/
def execAdd_hl_bc (s : State) : Result :=
  addHl .bc s

/-- DEC BC (R454). -/
def execDec_bc (s : State) : Result :=
  step16 .bc (-1) s

/-- INC C (R449). -/
def execInc_c (s : State) : Result :=
  incReg .c s

/-- DEC C (R451). -/
def execDec_c (s : State) : Result :=
  decReg .c s

/-- RRCA (R463). -/
def execRrca (s : State) : Result :=
  rotA .rrc s

/-- INC DE (R453). -/
def execInc_de (s : State) : Result :=
  step16 .de 1 s

/-- INC D (R449). -/
def execInc_d (s : State) : Result :=
  incReg .d s

/-- DEC D (R451). -/
def execDec_d (s : State) : Result :=
  decReg .d s

/-- RLA (R464). -/
def execRla (s : State) : Result :=
  rotA .rl s

/-- ADD HL,DE (R455). -/
def execAdd_hl_de (s : State) : Result :=
  addHl .de s

/-- DEC DE (R454). -/
def execDec_de (s : State) : Result :=
  step16 .de (-1) s

/-- INC E (R449). -/
def execInc_e (s : State) : Result :=
  incReg .e s

/-- DEC E (R451). -/
def execDec_e (s : State) : Result :=
  decReg .e s

/-- RRA (R465). -/
def execRra (s : State) : Result :=
  rotA .rr s

/-- INC HL (R453). -/
def execInc_hl (s : State) : Result :=
  step16 .hl 1 s

/-- INC H (R449). -/
def execInc_h (s : State) : Result :=
  incReg .h s

/-- DEC H (R451). -/
def execDec_h (s : State) : Result :=
  decReg .h s

/-- DAA (R458). -/
def execDaa (s : State) : Result :=
  decimalAdjust s

/-- ADD HL,HL (R455). -/
def execAdd_hl_hl (s : State) : Result :=
  addHl .hl s

/-- DEC HL (R454). -/
def execDec_hl (s : State) : Result :=
  step16 .hl (-1) s

/-- INC L (R449). -/
def execInc_l (s : State) : Result :=
  incReg .l s

/-- DEC L (R451). -/
def execDec_l (s : State) : Result :=
  decReg .l s

/-- CPL (R459). -/
def execCpl (s : State) : Result :=
  complementA s

/-- INC SP (R453). -/
def execInc_sp (s : State) : Result :=
  step16 .sp 1 s

/-- INC (HL) (R450). -/
def execInc_mhl (s : State) : Result :=
  incHl s

/-- DEC (HL) (R452). -/
def execDec_mhl (s : State) : Result :=
  decHl s

/-- SCF (R460). -/
def execScf (s : State) : Result :=
  setCarry s

/-- ADD HL,SP (R455). -/
def execAdd_hl_sp (s : State) : Result :=
  addHl .sp s

/-- DEC SP (R454). -/
def execDec_sp (s : State) : Result :=
  step16 .sp (-1) s

/-- INC A (R449). -/
def execInc_a (s : State) : Result :=
  incReg .a s

/-- DEC A (R451). -/
def execDec_a (s : State) : Result :=
  decReg .a s

/-- CCF (R461). -/
def execCcf (s : State) : Result :=
  complementCarry s

/-- ADD A,B (R441). -/
def execAdd_a_b (s : State) : Result :=
  aluReg .add .b s

/-- ADD A,C (R441). -/
def execAdd_a_c (s : State) : Result :=
  aluReg .add .c s

/-- ADD A,D (R441). -/
def execAdd_a_d (s : State) : Result :=
  aluReg .add .d s

/-- ADD A,E (R441). -/
def execAdd_a_e (s : State) : Result :=
  aluReg .add .e s

/-- ADD A,H (R441). -/
def execAdd_a_h (s : State) : Result :=
  aluReg .add .h s

/-- ADD A,L (R441). -/
def execAdd_a_l (s : State) : Result :=
  aluReg .add .l s

/-- ADD A,(HL) (R441). -/
def execAdd_a_mhl (s : State) : Result :=
  aluHl .add s

/-- ADD A,A (R441). -/
def execAdd_a_a (s : State) : Result :=
  aluReg .add .a s

/-- ADC A,B (R442). -/
def execAdc_a_b (s : State) : Result :=
  aluReg .adc .b s

/-- ADC A,C (R442). -/
def execAdc_a_c (s : State) : Result :=
  aluReg .adc .c s

/-- ADC A,D (R442). -/
def execAdc_a_d (s : State) : Result :=
  aluReg .adc .d s

/-- ADC A,E (R442). -/
def execAdc_a_e (s : State) : Result :=
  aluReg .adc .e s

/-- ADC A,H (R442). -/
def execAdc_a_h (s : State) : Result :=
  aluReg .adc .h s

/-- ADC A,L (R442). -/
def execAdc_a_l (s : State) : Result :=
  aluReg .adc .l s

/-- ADC A,(HL) (R442). -/
def execAdc_a_mhl (s : State) : Result :=
  aluHl .adc s

/-- ADC A,A (R442). -/
def execAdc_a_a (s : State) : Result :=
  aluReg .adc .a s

/-- SUB B (R443). -/
def execSub_b (s : State) : Result :=
  aluReg .sub .b s

/-- SUB C (R443). -/
def execSub_c (s : State) : Result :=
  aluReg .sub .c s

/-- SUB D (R443). -/
def execSub_d (s : State) : Result :=
  aluReg .sub .d s

/-- SUB E (R443). -/
def execSub_e (s : State) : Result :=
  aluReg .sub .e s

/-- SUB H (R443). -/
def execSub_h (s : State) : Result :=
  aluReg .sub .h s

/-- SUB L (R443). -/
def execSub_l (s : State) : Result :=
  aluReg .sub .l s

/-- SUB (HL) (R443). -/
def execSub_mhl (s : State) : Result :=
  aluHl .sub s

/-- SUB A (R443). -/
def execSub_a (s : State) : Result :=
  aluReg .sub .a s

/-- SBC A,B (R444). -/
def execSbc_a_b (s : State) : Result :=
  aluReg .sbc .b s

/-- SBC A,C (R444). -/
def execSbc_a_c (s : State) : Result :=
  aluReg .sbc .c s

/-- SBC A,D (R444). -/
def execSbc_a_d (s : State) : Result :=
  aluReg .sbc .d s

/-- SBC A,E (R444). -/
def execSbc_a_e (s : State) : Result :=
  aluReg .sbc .e s

/-- SBC A,H (R444). -/
def execSbc_a_h (s : State) : Result :=
  aluReg .sbc .h s

/-- SBC A,L (R444). -/
def execSbc_a_l (s : State) : Result :=
  aluReg .sbc .l s

/-- SBC A,(HL) (R444). -/
def execSbc_a_mhl (s : State) : Result :=
  aluHl .sbc s

/-- SBC A,A (R444). -/
def execSbc_a_a (s : State) : Result :=
  aluReg .sbc .a s

/-- AND B (R445). -/
def execAnd_b (s : State) : Result :=
  aluReg .and .b s

/-- AND C (R445). -/
def execAnd_c (s : State) : Result :=
  aluReg .and .c s

/-- AND D (R445). -/
def execAnd_d (s : State) : Result :=
  aluReg .and .d s

/-- AND E (R445). -/
def execAnd_e (s : State) : Result :=
  aluReg .and .e s

/-- AND H (R445). -/
def execAnd_h (s : State) : Result :=
  aluReg .and .h s

/-- AND L (R445). -/
def execAnd_l (s : State) : Result :=
  aluReg .and .l s

/-- AND (HL) (R445). -/
def execAnd_mhl (s : State) : Result :=
  aluHl .and s

/-- AND A (R445). -/
def execAnd_a (s : State) : Result :=
  aluReg .and .a s

/-- XOR B (R446). -/
def execXor_b (s : State) : Result :=
  aluReg .xor .b s

/-- XOR C (R446). -/
def execXor_c (s : State) : Result :=
  aluReg .xor .c s

/-- XOR D (R446). -/
def execXor_d (s : State) : Result :=
  aluReg .xor .d s

/-- XOR E (R446). -/
def execXor_e (s : State) : Result :=
  aluReg .xor .e s

/-- XOR H (R446). -/
def execXor_h (s : State) : Result :=
  aluReg .xor .h s

/-- XOR L (R446). -/
def execXor_l (s : State) : Result :=
  aluReg .xor .l s

/-- XOR (HL) (R446). -/
def execXor_mhl (s : State) : Result :=
  aluHl .xor s

/-- XOR A (R446). -/
def execXor_a (s : State) : Result :=
  aluReg .xor .a s

/-- OR B (R447). -/
def execOr_b (s : State) : Result :=
  aluReg .or .b s

/-- OR C (R447). -/
def execOr_c (s : State) : Result :=
  aluReg .or .c s

/-- OR D (R447). -/
def execOr_d (s : State) : Result :=
  aluReg .or .d s

/-- OR E (R447). -/
def execOr_e (s : State) : Result :=
  aluReg .or .e s

/-- OR H (R447). -/
def execOr_h (s : State) : Result :=
  aluReg .or .h s

/-- OR L (R447). -/
def execOr_l (s : State) : Result :=
  aluReg .or .l s

/-- OR (HL) (R447). -/
def execOr_mhl (s : State) : Result :=
  aluHl .or s

/-- OR A (R447). -/
def execOr_a (s : State) : Result :=
  aluReg .or .a s

/-- CP B (R448). -/
def execCp_b (s : State) : Result :=
  aluReg .cp .b s

/-- CP C (R448). -/
def execCp_c (s : State) : Result :=
  aluReg .cp .c s

/-- CP D (R448). -/
def execCp_d (s : State) : Result :=
  aluReg .cp .d s

/-- CP E (R448). -/
def execCp_e (s : State) : Result :=
  aluReg .cp .e s

/-- CP H (R448). -/
def execCp_h (s : State) : Result :=
  aluReg .cp .h s

/-- CP L (R448). -/
def execCp_l (s : State) : Result :=
  aluReg .cp .l s

/-- CP (HL) (R448). -/
def execCp_mhl (s : State) : Result :=
  aluHl .cp s

/-- CP A (R448). -/
def execCp_a (s : State) : Result :=
  aluReg .cp .a s

/-- ADD A,d8 (R441). -/
def execAdd_a_d8 (d8 : Byte) (s : State) : Result :=
  aluByte .add d8 s

/-- ADC A,d8 (R442). -/
def execAdc_a_d8 (d8 : Byte) (s : State) : Result :=
  aluByte .adc d8 s

/-- SUB d8 (R443). -/
def execSub_d8 (d8 : Byte) (s : State) : Result :=
  aluByte .sub d8 s

/-- SBC A,d8 (R444). -/
def execSbc_a_d8 (d8 : Byte) (s : State) : Result :=
  aluByte .sbc d8 s

/-- AND d8 (R445). -/
def execAnd_d8 (d8 : Byte) (s : State) : Result :=
  aluByte .and d8 s

/-- ADD SP,e8 (R456). -/
def execAdd_sp_e8 (e8 : Byte) (s : State) : Result :=
  addSp e8 s

/-- XOR d8 (R446). -/
def execXor_d8 (d8 : Byte) (s : State) : Result :=
  aluByte .xor d8 s

/-- OR d8 (R447). -/
def execOr_d8 (d8 : Byte) (s : State) : Result :=
  aluByte .or d8 s

/-- LD HL,SP+e8 (R457). -/
def execLd_hl_sp_e8 (e8 : Byte) (s : State) : Result :=
  ldHlSp e8 s

/-- CP d8 (R448). -/
def execCp_d8 (d8 : Byte) (s : State) : Result :=
  aluByte .cp d8 s

end Sys2Proof.Machine
end

