-- ==== Sys2Proof/Machine/N8Cb.lean ====
section
/-! DEFINITION. The 256 prefixed N8 instructions (48_n8_cb.md). -/

namespace Sys2Proof.Machine

/-- Rotate, shift or SWAP of a register (R490 to R498). -/
def cbRotReg (op : RotOp) (r : R8) (s : State) : Result :=
  n8Done 2 .cbR (s.apply8 r (cbRot8 op (s.get8 r) (fC s.n8.f)))

/-- Rotate, shift or SWAP of the byte at HL (R490 to R498). -/
def cbRotHl (op : RotOp) (s : State) : Result := modifyHl (fun v => cbRot8 op v (fC s.n8.f)) 2 .cbHL s

/-- BIT b, r (R499). -/
def bitReg (b : Nat) (r : R8) (s : State) : Result := n8Done 2 .bitR (s.setFlagsN8 (bitFlags (s.get8 r) b))

/-- BIT b, (HL) (R499): one read, no write. -/
def bitHl (b : Nat) (s : State) : Result :=
  andThen (s.load8 (s.getPair .hl)) fun r => n8Done 2 .bitHL (r.2.setFlagsN8 (bitFlags r.1 b))

/-- RES b, r and SET b, r (R500, R501): no flag changes. -/
def putBitReg (b : Nat) (v : Bool) (r : R8) (s : State) : Result := n8Done 2 .cbR (s.set8 r (setBit (s.get8 r) b v))

/-- RES b, (HL) and SET b, (HL) (R500, R501). -/
def putBitHl (b : Nat) (v : Bool) (s : State) : Result := modifyHl (fun w => ⟨setBit w b v, {}⟩) 2 .cbHL s

/-- RLC B (R491). -/
def execRlc_b (s : State) : Result :=
  cbRotReg .rlc .b s

/-- RLC C (R491). -/
def execRlc_c (s : State) : Result :=
  cbRotReg .rlc .c s

/-- RLC D (R491). -/
def execRlc_d (s : State) : Result :=
  cbRotReg .rlc .d s

/-- RLC E (R491). -/
def execRlc_e (s : State) : Result :=
  cbRotReg .rlc .e s

/-- RLC H (R491). -/
def execRlc_h (s : State) : Result :=
  cbRotReg .rlc .h s

/-- RLC L (R491). -/
def execRlc_l (s : State) : Result :=
  cbRotReg .rlc .l s

/-- RLC (HL) (R491). -/
def execRlc_mhl (s : State) : Result :=
  cbRotHl .rlc s

/-- RLC A (R491). -/
def execRlc_a (s : State) : Result :=
  cbRotReg .rlc .a s

/-- RRC B (R492). -/
def execRrc_b (s : State) : Result :=
  cbRotReg .rrc .b s

/-- RRC C (R492). -/
def execRrc_c (s : State) : Result :=
  cbRotReg .rrc .c s

/-- RRC D (R492). -/
def execRrc_d (s : State) : Result :=
  cbRotReg .rrc .d s

/-- RRC E (R492). -/
def execRrc_e (s : State) : Result :=
  cbRotReg .rrc .e s

/-- RRC H (R492). -/
def execRrc_h (s : State) : Result :=
  cbRotReg .rrc .h s

/-- RRC L (R492). -/
def execRrc_l (s : State) : Result :=
  cbRotReg .rrc .l s

/-- RRC (HL) (R492). -/
def execRrc_mhl (s : State) : Result :=
  cbRotHl .rrc s

/-- RRC A (R492). -/
def execRrc_a (s : State) : Result :=
  cbRotReg .rrc .a s

/-- RL B (R493). -/
def execRl_b (s : State) : Result :=
  cbRotReg .rl .b s

/-- RL C (R493). -/
def execRl_c (s : State) : Result :=
  cbRotReg .rl .c s

/-- RL D (R493). -/
def execRl_d (s : State) : Result :=
  cbRotReg .rl .d s

/-- RL E (R493). -/
def execRl_e (s : State) : Result :=
  cbRotReg .rl .e s

/-- RL H (R493). -/
def execRl_h (s : State) : Result :=
  cbRotReg .rl .h s

/-- RL L (R493). -/
def execRl_l (s : State) : Result :=
  cbRotReg .rl .l s

/-- RL (HL) (R493). -/
def execRl_mhl (s : State) : Result :=
  cbRotHl .rl s

/-- RL A (R493). -/
def execRl_a (s : State) : Result :=
  cbRotReg .rl .a s

/-- RR B (R494). -/
def execRr_b (s : State) : Result :=
  cbRotReg .rr .b s

/-- RR C (R494). -/
def execRr_c (s : State) : Result :=
  cbRotReg .rr .c s

/-- RR D (R494). -/
def execRr_d (s : State) : Result :=
  cbRotReg .rr .d s

/-- RR E (R494). -/
def execRr_e (s : State) : Result :=
  cbRotReg .rr .e s

/-- RR H (R494). -/
def execRr_h (s : State) : Result :=
  cbRotReg .rr .h s

/-- RR L (R494). -/
def execRr_l (s : State) : Result :=
  cbRotReg .rr .l s

/-- RR (HL) (R494). -/
def execRr_mhl (s : State) : Result :=
  cbRotHl .rr s

/-- RR A (R494). -/
def execRr_a (s : State) : Result :=
  cbRotReg .rr .a s

/-- SLA B (R495). -/
def execSla_b (s : State) : Result :=
  cbRotReg .sla .b s

/-- SLA C (R495). -/
def execSla_c (s : State) : Result :=
  cbRotReg .sla .c s

/-- SLA D (R495). -/
def execSla_d (s : State) : Result :=
  cbRotReg .sla .d s

/-- SLA E (R495). -/
def execSla_e (s : State) : Result :=
  cbRotReg .sla .e s

/-- SLA H (R495). -/
def execSla_h (s : State) : Result :=
  cbRotReg .sla .h s

/-- SLA L (R495). -/
def execSla_l (s : State) : Result :=
  cbRotReg .sla .l s

/-- SLA (HL) (R495). -/
def execSla_mhl (s : State) : Result :=
  cbRotHl .sla s

/-- SLA A (R495). -/
def execSla_a (s : State) : Result :=
  cbRotReg .sla .a s

/-- SRA B (R496). -/
def execSra_b (s : State) : Result :=
  cbRotReg .sra .b s

/-- SRA C (R496). -/
def execSra_c (s : State) : Result :=
  cbRotReg .sra .c s

/-- SRA D (R496). -/
def execSra_d (s : State) : Result :=
  cbRotReg .sra .d s

/-- SRA E (R496). -/
def execSra_e (s : State) : Result :=
  cbRotReg .sra .e s

/-- SRA H (R496). -/
def execSra_h (s : State) : Result :=
  cbRotReg .sra .h s

/-- SRA L (R496). -/
def execSra_l (s : State) : Result :=
  cbRotReg .sra .l s

/-- SRA (HL) (R496). -/
def execSra_mhl (s : State) : Result :=
  cbRotHl .sra s

/-- SRA A (R496). -/
def execSra_a (s : State) : Result :=
  cbRotReg .sra .a s

/-- SWAP B (R497). -/
def execSwap_b (s : State) : Result :=
  cbRotReg .swap .b s

/-- SWAP C (R497). -/
def execSwap_c (s : State) : Result :=
  cbRotReg .swap .c s

/-- SWAP D (R497). -/
def execSwap_d (s : State) : Result :=
  cbRotReg .swap .d s

/-- SWAP E (R497). -/
def execSwap_e (s : State) : Result :=
  cbRotReg .swap .e s

/-- SWAP H (R497). -/
def execSwap_h (s : State) : Result :=
  cbRotReg .swap .h s

/-- SWAP L (R497). -/
def execSwap_l (s : State) : Result :=
  cbRotReg .swap .l s

/-- SWAP (HL) (R497). -/
def execSwap_mhl (s : State) : Result :=
  cbRotHl .swap s

/-- SWAP A (R497). -/
def execSwap_a (s : State) : Result :=
  cbRotReg .swap .a s

/-- SRL B (R498). -/
def execSrl_b (s : State) : Result :=
  cbRotReg .srl .b s

/-- SRL C (R498). -/
def execSrl_c (s : State) : Result :=
  cbRotReg .srl .c s

/-- SRL D (R498). -/
def execSrl_d (s : State) : Result :=
  cbRotReg .srl .d s

/-- SRL E (R498). -/
def execSrl_e (s : State) : Result :=
  cbRotReg .srl .e s

/-- SRL H (R498). -/
def execSrl_h (s : State) : Result :=
  cbRotReg .srl .h s

/-- SRL L (R498). -/
def execSrl_l (s : State) : Result :=
  cbRotReg .srl .l s

/-- SRL (HL) (R498). -/
def execSrl_mhl (s : State) : Result :=
  cbRotHl .srl s

/-- SRL A (R498). -/
def execSrl_a (s : State) : Result :=
  cbRotReg .srl .a s

/-- BIT 0,B (R499). -/
def execBit_0_b (s : State) : Result :=
  bitReg 0 .b s

/-- BIT 0,C (R499). -/
def execBit_0_c (s : State) : Result :=
  bitReg 0 .c s

/-- BIT 0,D (R499). -/
def execBit_0_d (s : State) : Result :=
  bitReg 0 .d s

/-- BIT 0,E (R499). -/
def execBit_0_e (s : State) : Result :=
  bitReg 0 .e s

/-- BIT 0,H (R499). -/
def execBit_0_h (s : State) : Result :=
  bitReg 0 .h s

/-- BIT 0,L (R499). -/
def execBit_0_l (s : State) : Result :=
  bitReg 0 .l s

/-- BIT 0,(HL) (R499). -/
def execBit_0_mhl (s : State) : Result :=
  bitHl 0 s

/-- BIT 0,A (R499). -/
def execBit_0_a (s : State) : Result :=
  bitReg 0 .a s

/-- BIT 1,B (R499). -/
def execBit_1_b (s : State) : Result :=
  bitReg 1 .b s

/-- BIT 1,C (R499). -/
def execBit_1_c (s : State) : Result :=
  bitReg 1 .c s

/-- BIT 1,D (R499). -/
def execBit_1_d (s : State) : Result :=
  bitReg 1 .d s

/-- BIT 1,E (R499). -/
def execBit_1_e (s : State) : Result :=
  bitReg 1 .e s

/-- BIT 1,H (R499). -/
def execBit_1_h (s : State) : Result :=
  bitReg 1 .h s

/-- BIT 1,L (R499). -/
def execBit_1_l (s : State) : Result :=
  bitReg 1 .l s

/-- BIT 1,(HL) (R499). -/
def execBit_1_mhl (s : State) : Result :=
  bitHl 1 s

/-- BIT 1,A (R499). -/
def execBit_1_a (s : State) : Result :=
  bitReg 1 .a s

/-- BIT 2,B (R499). -/
def execBit_2_b (s : State) : Result :=
  bitReg 2 .b s

/-- BIT 2,C (R499). -/
def execBit_2_c (s : State) : Result :=
  bitReg 2 .c s

/-- BIT 2,D (R499). -/
def execBit_2_d (s : State) : Result :=
  bitReg 2 .d s

/-- BIT 2,E (R499). -/
def execBit_2_e (s : State) : Result :=
  bitReg 2 .e s

/-- BIT 2,H (R499). -/
def execBit_2_h (s : State) : Result :=
  bitReg 2 .h s

/-- BIT 2,L (R499). -/
def execBit_2_l (s : State) : Result :=
  bitReg 2 .l s

/-- BIT 2,(HL) (R499). -/
def execBit_2_mhl (s : State) : Result :=
  bitHl 2 s

/-- BIT 2,A (R499). -/
def execBit_2_a (s : State) : Result :=
  bitReg 2 .a s

/-- BIT 3,B (R499). -/
def execBit_3_b (s : State) : Result :=
  bitReg 3 .b s

/-- BIT 3,C (R499). -/
def execBit_3_c (s : State) : Result :=
  bitReg 3 .c s

/-- BIT 3,D (R499). -/
def execBit_3_d (s : State) : Result :=
  bitReg 3 .d s

/-- BIT 3,E (R499). -/
def execBit_3_e (s : State) : Result :=
  bitReg 3 .e s

/-- BIT 3,H (R499). -/
def execBit_3_h (s : State) : Result :=
  bitReg 3 .h s

/-- BIT 3,L (R499). -/
def execBit_3_l (s : State) : Result :=
  bitReg 3 .l s

/-- BIT 3,(HL) (R499). -/
def execBit_3_mhl (s : State) : Result :=
  bitHl 3 s

/-- BIT 3,A (R499). -/
def execBit_3_a (s : State) : Result :=
  bitReg 3 .a s

/-- BIT 4,B (R499). -/
def execBit_4_b (s : State) : Result :=
  bitReg 4 .b s

/-- BIT 4,C (R499). -/
def execBit_4_c (s : State) : Result :=
  bitReg 4 .c s

/-- BIT 4,D (R499). -/
def execBit_4_d (s : State) : Result :=
  bitReg 4 .d s

/-- BIT 4,E (R499). -/
def execBit_4_e (s : State) : Result :=
  bitReg 4 .e s

/-- BIT 4,H (R499). -/
def execBit_4_h (s : State) : Result :=
  bitReg 4 .h s

/-- BIT 4,L (R499). -/
def execBit_4_l (s : State) : Result :=
  bitReg 4 .l s

/-- BIT 4,(HL) (R499). -/
def execBit_4_mhl (s : State) : Result :=
  bitHl 4 s

/-- BIT 4,A (R499). -/
def execBit_4_a (s : State) : Result :=
  bitReg 4 .a s

/-- BIT 5,B (R499). -/
def execBit_5_b (s : State) : Result :=
  bitReg 5 .b s

/-- BIT 5,C (R499). -/
def execBit_5_c (s : State) : Result :=
  bitReg 5 .c s

/-- BIT 5,D (R499). -/
def execBit_5_d (s : State) : Result :=
  bitReg 5 .d s

/-- BIT 5,E (R499). -/
def execBit_5_e (s : State) : Result :=
  bitReg 5 .e s

/-- BIT 5,H (R499). -/
def execBit_5_h (s : State) : Result :=
  bitReg 5 .h s

/-- BIT 5,L (R499). -/
def execBit_5_l (s : State) : Result :=
  bitReg 5 .l s

/-- BIT 5,(HL) (R499). -/
def execBit_5_mhl (s : State) : Result :=
  bitHl 5 s

/-- BIT 5,A (R499). -/
def execBit_5_a (s : State) : Result :=
  bitReg 5 .a s

/-- BIT 6,B (R499). -/
def execBit_6_b (s : State) : Result :=
  bitReg 6 .b s

/-- BIT 6,C (R499). -/
def execBit_6_c (s : State) : Result :=
  bitReg 6 .c s

/-- BIT 6,D (R499). -/
def execBit_6_d (s : State) : Result :=
  bitReg 6 .d s

/-- BIT 6,E (R499). -/
def execBit_6_e (s : State) : Result :=
  bitReg 6 .e s

/-- BIT 6,H (R499). -/
def execBit_6_h (s : State) : Result :=
  bitReg 6 .h s

/-- BIT 6,L (R499). -/
def execBit_6_l (s : State) : Result :=
  bitReg 6 .l s

/-- BIT 6,(HL) (R499). -/
def execBit_6_mhl (s : State) : Result :=
  bitHl 6 s

/-- BIT 6,A (R499). -/
def execBit_6_a (s : State) : Result :=
  bitReg 6 .a s

/-- BIT 7,B (R499). -/
def execBit_7_b (s : State) : Result :=
  bitReg 7 .b s

/-- BIT 7,C (R499). -/
def execBit_7_c (s : State) : Result :=
  bitReg 7 .c s

/-- BIT 7,D (R499). -/
def execBit_7_d (s : State) : Result :=
  bitReg 7 .d s

/-- BIT 7,E (R499). -/
def execBit_7_e (s : State) : Result :=
  bitReg 7 .e s

/-- BIT 7,H (R499). -/
def execBit_7_h (s : State) : Result :=
  bitReg 7 .h s

/-- BIT 7,L (R499). -/
def execBit_7_l (s : State) : Result :=
  bitReg 7 .l s

/-- BIT 7,(HL) (R499). -/
def execBit_7_mhl (s : State) : Result :=
  bitHl 7 s

/-- BIT 7,A (R499). -/
def execBit_7_a (s : State) : Result :=
  bitReg 7 .a s

/-- RES 0,B (R500). -/
def execRes_0_b (s : State) : Result :=
  putBitReg 0 false .b s

/-- RES 0,C (R500). -/
def execRes_0_c (s : State) : Result :=
  putBitReg 0 false .c s

/-- RES 0,D (R500). -/
def execRes_0_d (s : State) : Result :=
  putBitReg 0 false .d s

/-- RES 0,E (R500). -/
def execRes_0_e (s : State) : Result :=
  putBitReg 0 false .e s

/-- RES 0,H (R500). -/
def execRes_0_h (s : State) : Result :=
  putBitReg 0 false .h s

/-- RES 0,L (R500). -/
def execRes_0_l (s : State) : Result :=
  putBitReg 0 false .l s

/-- RES 0,(HL) (R500). -/
def execRes_0_mhl (s : State) : Result :=
  putBitHl 0 false s

/-- RES 0,A (R500). -/
def execRes_0_a (s : State) : Result :=
  putBitReg 0 false .a s

/-- RES 1,B (R500). -/
def execRes_1_b (s : State) : Result :=
  putBitReg 1 false .b s

/-- RES 1,C (R500). -/
def execRes_1_c (s : State) : Result :=
  putBitReg 1 false .c s

/-- RES 1,D (R500). -/
def execRes_1_d (s : State) : Result :=
  putBitReg 1 false .d s

/-- RES 1,E (R500). -/
def execRes_1_e (s : State) : Result :=
  putBitReg 1 false .e s

/-- RES 1,H (R500). -/
def execRes_1_h (s : State) : Result :=
  putBitReg 1 false .h s

/-- RES 1,L (R500). -/
def execRes_1_l (s : State) : Result :=
  putBitReg 1 false .l s

/-- RES 1,(HL) (R500). -/
def execRes_1_mhl (s : State) : Result :=
  putBitHl 1 false s

/-- RES 1,A (R500). -/
def execRes_1_a (s : State) : Result :=
  putBitReg 1 false .a s

/-- RES 2,B (R500). -/
def execRes_2_b (s : State) : Result :=
  putBitReg 2 false .b s

/-- RES 2,C (R500). -/
def execRes_2_c (s : State) : Result :=
  putBitReg 2 false .c s

/-- RES 2,D (R500). -/
def execRes_2_d (s : State) : Result :=
  putBitReg 2 false .d s

/-- RES 2,E (R500). -/
def execRes_2_e (s : State) : Result :=
  putBitReg 2 false .e s

/-- RES 2,H (R500). -/
def execRes_2_h (s : State) : Result :=
  putBitReg 2 false .h s

/-- RES 2,L (R500). -/
def execRes_2_l (s : State) : Result :=
  putBitReg 2 false .l s

/-- RES 2,(HL) (R500). -/
def execRes_2_mhl (s : State) : Result :=
  putBitHl 2 false s

/-- RES 2,A (R500). -/
def execRes_2_a (s : State) : Result :=
  putBitReg 2 false .a s

/-- RES 3,B (R500). -/
def execRes_3_b (s : State) : Result :=
  putBitReg 3 false .b s

/-- RES 3,C (R500). -/
def execRes_3_c (s : State) : Result :=
  putBitReg 3 false .c s

/-- RES 3,D (R500). -/
def execRes_3_d (s : State) : Result :=
  putBitReg 3 false .d s

/-- RES 3,E (R500). -/
def execRes_3_e (s : State) : Result :=
  putBitReg 3 false .e s

/-- RES 3,H (R500). -/
def execRes_3_h (s : State) : Result :=
  putBitReg 3 false .h s

/-- RES 3,L (R500). -/
def execRes_3_l (s : State) : Result :=
  putBitReg 3 false .l s

/-- RES 3,(HL) (R500). -/
def execRes_3_mhl (s : State) : Result :=
  putBitHl 3 false s

/-- RES 3,A (R500). -/
def execRes_3_a (s : State) : Result :=
  putBitReg 3 false .a s

/-- RES 4,B (R500). -/
def execRes_4_b (s : State) : Result :=
  putBitReg 4 false .b s

/-- RES 4,C (R500). -/
def execRes_4_c (s : State) : Result :=
  putBitReg 4 false .c s

/-- RES 4,D (R500). -/
def execRes_4_d (s : State) : Result :=
  putBitReg 4 false .d s

/-- RES 4,E (R500). -/
def execRes_4_e (s : State) : Result :=
  putBitReg 4 false .e s

/-- RES 4,H (R500). -/
def execRes_4_h (s : State) : Result :=
  putBitReg 4 false .h s

/-- RES 4,L (R500). -/
def execRes_4_l (s : State) : Result :=
  putBitReg 4 false .l s

/-- RES 4,(HL) (R500). -/
def execRes_4_mhl (s : State) : Result :=
  putBitHl 4 false s

/-- RES 4,A (R500). -/
def execRes_4_a (s : State) : Result :=
  putBitReg 4 false .a s

/-- RES 5,B (R500). -/
def execRes_5_b (s : State) : Result :=
  putBitReg 5 false .b s

/-- RES 5,C (R500). -/
def execRes_5_c (s : State) : Result :=
  putBitReg 5 false .c s

/-- RES 5,D (R500). -/
def execRes_5_d (s : State) : Result :=
  putBitReg 5 false .d s

/-- RES 5,E (R500). -/
def execRes_5_e (s : State) : Result :=
  putBitReg 5 false .e s

/-- RES 5,H (R500). -/
def execRes_5_h (s : State) : Result :=
  putBitReg 5 false .h s

/-- RES 5,L (R500). -/
def execRes_5_l (s : State) : Result :=
  putBitReg 5 false .l s

/-- RES 5,(HL) (R500). -/
def execRes_5_mhl (s : State) : Result :=
  putBitHl 5 false s

/-- RES 5,A (R500). -/
def execRes_5_a (s : State) : Result :=
  putBitReg 5 false .a s

/-- RES 6,B (R500). -/
def execRes_6_b (s : State) : Result :=
  putBitReg 6 false .b s

/-- RES 6,C (R500). -/
def execRes_6_c (s : State) : Result :=
  putBitReg 6 false .c s

/-- RES 6,D (R500). -/
def execRes_6_d (s : State) : Result :=
  putBitReg 6 false .d s

/-- RES 6,E (R500). -/
def execRes_6_e (s : State) : Result :=
  putBitReg 6 false .e s

/-- RES 6,H (R500). -/
def execRes_6_h (s : State) : Result :=
  putBitReg 6 false .h s

/-- RES 6,L (R500). -/
def execRes_6_l (s : State) : Result :=
  putBitReg 6 false .l s

/-- RES 6,(HL) (R500). -/
def execRes_6_mhl (s : State) : Result :=
  putBitHl 6 false s

/-- RES 6,A (R500). -/
def execRes_6_a (s : State) : Result :=
  putBitReg 6 false .a s

/-- RES 7,B (R500). -/
def execRes_7_b (s : State) : Result :=
  putBitReg 7 false .b s

/-- RES 7,C (R500). -/
def execRes_7_c (s : State) : Result :=
  putBitReg 7 false .c s

/-- RES 7,D (R500). -/
def execRes_7_d (s : State) : Result :=
  putBitReg 7 false .d s

/-- RES 7,E (R500). -/
def execRes_7_e (s : State) : Result :=
  putBitReg 7 false .e s

/-- RES 7,H (R500). -/
def execRes_7_h (s : State) : Result :=
  putBitReg 7 false .h s

/-- RES 7,L (R500). -/
def execRes_7_l (s : State) : Result :=
  putBitReg 7 false .l s

/-- RES 7,(HL) (R500). -/
def execRes_7_mhl (s : State) : Result :=
  putBitHl 7 false s

/-- RES 7,A (R500). -/
def execRes_7_a (s : State) : Result :=
  putBitReg 7 false .a s

/-- SET 0,B (R501). -/
def execSet_0_b (s : State) : Result :=
  putBitReg 0 true .b s

/-- SET 0,C (R501). -/
def execSet_0_c (s : State) : Result :=
  putBitReg 0 true .c s

/-- SET 0,D (R501). -/
def execSet_0_d (s : State) : Result :=
  putBitReg 0 true .d s

/-- SET 0,E (R501). -/
def execSet_0_e (s : State) : Result :=
  putBitReg 0 true .e s

/-- SET 0,H (R501). -/
def execSet_0_h (s : State) : Result :=
  putBitReg 0 true .h s

/-- SET 0,L (R501). -/
def execSet_0_l (s : State) : Result :=
  putBitReg 0 true .l s

/-- SET 0,(HL) (R501). -/
def execSet_0_mhl (s : State) : Result :=
  putBitHl 0 true s

/-- SET 0,A (R501). -/
def execSet_0_a (s : State) : Result :=
  putBitReg 0 true .a s

/-- SET 1,B (R501). -/
def execSet_1_b (s : State) : Result :=
  putBitReg 1 true .b s

/-- SET 1,C (R501). -/
def execSet_1_c (s : State) : Result :=
  putBitReg 1 true .c s

/-- SET 1,D (R501). -/
def execSet_1_d (s : State) : Result :=
  putBitReg 1 true .d s

/-- SET 1,E (R501). -/
def execSet_1_e (s : State) : Result :=
  putBitReg 1 true .e s

/-- SET 1,H (R501). -/
def execSet_1_h (s : State) : Result :=
  putBitReg 1 true .h s

/-- SET 1,L (R501). -/
def execSet_1_l (s : State) : Result :=
  putBitReg 1 true .l s

/-- SET 1,(HL) (R501). -/
def execSet_1_mhl (s : State) : Result :=
  putBitHl 1 true s

/-- SET 1,A (R501). -/
def execSet_1_a (s : State) : Result :=
  putBitReg 1 true .a s

/-- SET 2,B (R501). -/
def execSet_2_b (s : State) : Result :=
  putBitReg 2 true .b s

/-- SET 2,C (R501). -/
def execSet_2_c (s : State) : Result :=
  putBitReg 2 true .c s

/-- SET 2,D (R501). -/
def execSet_2_d (s : State) : Result :=
  putBitReg 2 true .d s

/-- SET 2,E (R501). -/
def execSet_2_e (s : State) : Result :=
  putBitReg 2 true .e s

/-- SET 2,H (R501). -/
def execSet_2_h (s : State) : Result :=
  putBitReg 2 true .h s

/-- SET 2,L (R501). -/
def execSet_2_l (s : State) : Result :=
  putBitReg 2 true .l s

/-- SET 2,(HL) (R501). -/
def execSet_2_mhl (s : State) : Result :=
  putBitHl 2 true s

/-- SET 2,A (R501). -/
def execSet_2_a (s : State) : Result :=
  putBitReg 2 true .a s

/-- SET 3,B (R501). -/
def execSet_3_b (s : State) : Result :=
  putBitReg 3 true .b s

/-- SET 3,C (R501). -/
def execSet_3_c (s : State) : Result :=
  putBitReg 3 true .c s

/-- SET 3,D (R501). -/
def execSet_3_d (s : State) : Result :=
  putBitReg 3 true .d s

/-- SET 3,E (R501). -/
def execSet_3_e (s : State) : Result :=
  putBitReg 3 true .e s

/-- SET 3,H (R501). -/
def execSet_3_h (s : State) : Result :=
  putBitReg 3 true .h s

/-- SET 3,L (R501). -/
def execSet_3_l (s : State) : Result :=
  putBitReg 3 true .l s

/-- SET 3,(HL) (R501). -/
def execSet_3_mhl (s : State) : Result :=
  putBitHl 3 true s

/-- SET 3,A (R501). -/
def execSet_3_a (s : State) : Result :=
  putBitReg 3 true .a s

/-- SET 4,B (R501). -/
def execSet_4_b (s : State) : Result :=
  putBitReg 4 true .b s

/-- SET 4,C (R501). -/
def execSet_4_c (s : State) : Result :=
  putBitReg 4 true .c s

/-- SET 4,D (R501). -/
def execSet_4_d (s : State) : Result :=
  putBitReg 4 true .d s

/-- SET 4,E (R501). -/
def execSet_4_e (s : State) : Result :=
  putBitReg 4 true .e s

/-- SET 4,H (R501). -/
def execSet_4_h (s : State) : Result :=
  putBitReg 4 true .h s

/-- SET 4,L (R501). -/
def execSet_4_l (s : State) : Result :=
  putBitReg 4 true .l s

/-- SET 4,(HL) (R501). -/
def execSet_4_mhl (s : State) : Result :=
  putBitHl 4 true s

/-- SET 4,A (R501). -/
def execSet_4_a (s : State) : Result :=
  putBitReg 4 true .a s

/-- SET 5,B (R501). -/
def execSet_5_b (s : State) : Result :=
  putBitReg 5 true .b s

/-- SET 5,C (R501). -/
def execSet_5_c (s : State) : Result :=
  putBitReg 5 true .c s

/-- SET 5,D (R501). -/
def execSet_5_d (s : State) : Result :=
  putBitReg 5 true .d s

/-- SET 5,E (R501). -/
def execSet_5_e (s : State) : Result :=
  putBitReg 5 true .e s

/-- SET 5,H (R501). -/
def execSet_5_h (s : State) : Result :=
  putBitReg 5 true .h s

/-- SET 5,L (R501). -/
def execSet_5_l (s : State) : Result :=
  putBitReg 5 true .l s

/-- SET 5,(HL) (R501). -/
def execSet_5_mhl (s : State) : Result :=
  putBitHl 5 true s

/-- SET 5,A (R501). -/
def execSet_5_a (s : State) : Result :=
  putBitReg 5 true .a s

/-- SET 6,B (R501). -/
def execSet_6_b (s : State) : Result :=
  putBitReg 6 true .b s

/-- SET 6,C (R501). -/
def execSet_6_c (s : State) : Result :=
  putBitReg 6 true .c s

/-- SET 6,D (R501). -/
def execSet_6_d (s : State) : Result :=
  putBitReg 6 true .d s

/-- SET 6,E (R501). -/
def execSet_6_e (s : State) : Result :=
  putBitReg 6 true .e s

/-- SET 6,H (R501). -/
def execSet_6_h (s : State) : Result :=
  putBitReg 6 true .h s

/-- SET 6,L (R501). -/
def execSet_6_l (s : State) : Result :=
  putBitReg 6 true .l s

/-- SET 6,(HL) (R501). -/
def execSet_6_mhl (s : State) : Result :=
  putBitHl 6 true s

/-- SET 6,A (R501). -/
def execSet_6_a (s : State) : Result :=
  putBitReg 6 true .a s

/-- SET 7,B (R501). -/
def execSet_7_b (s : State) : Result :=
  putBitReg 7 true .b s

/-- SET 7,C (R501). -/
def execSet_7_c (s : State) : Result :=
  putBitReg 7 true .c s

/-- SET 7,D (R501). -/
def execSet_7_d (s : State) : Result :=
  putBitReg 7 true .d s

/-- SET 7,E (R501). -/
def execSet_7_e (s : State) : Result :=
  putBitReg 7 true .e s

/-- SET 7,H (R501). -/
def execSet_7_h (s : State) : Result :=
  putBitReg 7 true .h s

/-- SET 7,L (R501). -/
def execSet_7_l (s : State) : Result :=
  putBitReg 7 true .l s

/-- SET 7,(HL) (R501). -/
def execSet_7_mhl (s : State) : Result :=
  putBitHl 7 true s

/-- SET 7,A (R501). -/
def execSet_7_a (s : State) : Result :=
  putBitReg 7 true .a s

end Sys2Proof.Machine
end

