-- ==== Sys2Proof/Machine/N8Control.lean ====
section
/-! DEFINITION. The N8 control-flow instructions (49_n8_control.md). -/

namespace Sys2Proof.Machine

/-- HALT (R512). -/
def halt (s : State) : Result := n8Done 1 .halt { s with running := false }

/-- A jump (R513, R515, R516). -/
def jump (target : Half) (row : CostRow) (s : State) : Result := complete row { s with pc := target }

/-- A conditional jump (R514, R517): past the instruction when the condition fails. -/
def jumpIf (cc : CC) (target : Half) (len : Nat) (row : Bool → CostRow) (s : State) : Result :=
  if ccPassed cc s.n8.f then jump target (row true) s else n8Done len (row false) s

/-- CALL and RST (R518, R522): the address after the instruction is pushed. -/
def call (target : Half) (len : Nat) (row : CostRow) (s : State) : Result :=
  andThen (s.push16 (s.pc + BitVec.ofNat 16 len)) fun t => jump target row t

/-- CALL cc (R519). -/
def callIf (cc : CC) (target : Half) (s : State) : Result :=
  if ccPassed cc s.n8.f then call target 3 (.callCc true) s else n8Done 3 (.callCc false) s

/-- RET (R520). -/
def ret (row : CostRow) (s : State) : Result := andThen s.pop16 fun r => jump r.1 row r.2

/-- RET cc (R521). -/
def retIf (cc : CC) (s : State) : Result :=
  if ccPassed cc s.n8.f then ret (.retCc true) s else n8Done 1 (.retCc false) s

/-- NOP (R511). -/
def execNop (s : State) : Result :=
  n8Done 1 .nop s

/-- JR e8 (R516). -/
def execJr_e8 (e8 : Byte) (s : State) : Result :=
  jump (relTarget s e8) .jr s

/-- JR NZ,e8 (R517). -/
def execJr_nz_e8 (e8 : Byte) (s : State) : Result :=
  jumpIf .nz (relTarget s e8) 2 .jrCc s

/-- JR Z,e8 (R517). -/
def execJr_z_e8 (e8 : Byte) (s : State) : Result :=
  jumpIf .z (relTarget s e8) 2 .jrCc s

/-- JR NC,e8 (R517). -/
def execJr_nc_e8 (e8 : Byte) (s : State) : Result :=
  jumpIf .nc (relTarget s e8) 2 .jrCc s

/-- JR C,e8 (R517). -/
def execJr_c_e8 (e8 : Byte) (s : State) : Result :=
  jumpIf .c (relTarget s e8) 2 .jrCc s

/-- HALT (R512). -/
def execHalt (s : State) : Result :=
  halt s

/-- RET NZ (R521). -/
def execRet_nz (s : State) : Result :=
  retIf .nz s

/-- JP NZ,a16 (R514). -/
def execJp_nz_a16 (a16 : Half) (s : State) : Result :=
  jumpIf .nz a16 3 .jpCc s

/-- JP a16 (R513). -/
def execJp_a16 (a16 : Half) (s : State) : Result :=
  jump a16 .jp s

/-- CALL NZ,a16 (R519). -/
def execCall_nz_a16 (a16 : Half) (s : State) : Result :=
  callIf .nz a16 s

/-- RST 00h (R522). -/
def execRst_00 (s : State) : Result :=
  call 0x00 1 .rst s

/-- RET Z (R521). -/
def execRet_z (s : State) : Result :=
  retIf .z s

/-- RET (R520). -/
def execRet (s : State) : Result :=
  ret .ret s

/-- JP Z,a16 (R514). -/
def execJp_z_a16 (a16 : Half) (s : State) : Result :=
  jumpIf .z a16 3 .jpCc s

/-- CALL Z,a16 (R519). -/
def execCall_z_a16 (a16 : Half) (s : State) : Result :=
  callIf .z a16 s

/-- CALL a16 (R518). -/
def execCall_a16 (a16 : Half) (s : State) : Result :=
  call a16 3 .call s

/-- RST 08h (R522). -/
def execRst_08 (s : State) : Result :=
  call 0x08 1 .rst s

/-- RET NC (R521). -/
def execRet_nc (s : State) : Result :=
  retIf .nc s

/-- JP NC,a16 (R514). -/
def execJp_nc_a16 (a16 : Half) (s : State) : Result :=
  jumpIf .nc a16 3 .jpCc s

/-- CALL NC,a16 (R519). -/
def execCall_nc_a16 (a16 : Half) (s : State) : Result :=
  callIf .nc a16 s

/-- RST 10h (R522). -/
def execRst_10 (s : State) : Result :=
  call 0x10 1 .rst s

/-- RET C (R521). -/
def execRet_c (s : State) : Result :=
  retIf .c s

/-- JP C,a16 (R514). -/
def execJp_c_a16 (a16 : Half) (s : State) : Result :=
  jumpIf .c a16 3 .jpCc s

/-- CALL C,a16 (R519). -/
def execCall_c_a16 (a16 : Half) (s : State) : Result :=
  callIf .c a16 s

/-- RST 18h (R522). -/
def execRst_18 (s : State) : Result :=
  call 0x18 1 .rst s

/-- RST 20h (R522). -/
def execRst_20 (s : State) : Result :=
  call 0x20 1 .rst s

/-- JP HL (R515). -/
def execJp_hl (s : State) : Result :=
  jump (s.getPair .hl) .jpHL s

/-- RST 28h (R522). -/
def execRst_28 (s : State) : Result :=
  call 0x28 1 .rst s

/-- RST 30h (R522). -/
def execRst_30 (s : State) : Result :=
  call 0x30 1 .rst s

/-- RST 38h (R522). -/
def execRst_38 (s : State) : Result :=
  call 0x38 1 .rst s

end Sys2Proof.Machine
end

