-- ==== Sys2Proof/Machine/N8Loads.lean ====
section
/-! DEFINITION. The N8 loads, stores and stack instructions (46_n8_loads.md). -/

namespace Sys2Proof.Machine

/-- The address 0xFF00 + n (R202). -/
def highPage (n : Byte) : Half := 0xFF00 + n.setWidth 16

/-- LD r, r' (R401). -/
def ldRegReg (dst src : R8) (s : State) : Result := n8Done 1 .ldRR (s.set8 dst (s.get8 src))

/-- LD r, (HL) (R402). -/
def ldRegHl (dst : R8) (s : State) : Result :=
  andThen (s.load8 (s.getPair .hl)) fun r => n8Done 1 .ldRHL (r.2.set8 dst r.1)

/-- LD (HL), r (R403). -/
def ldHlReg (src : R8) (s : State) : Result :=
  andThen (s.store8 (s.getPair .hl) (s.get8 src)) fun t => n8Done 1 .ldRHL t

/-- LD r, d8 (R404). -/
def ldRegByte (dst : R8) (d8 : Byte) (s : State) : Result := n8Done 2 .ldRD8 (s.set8 dst d8)

/-- LD (HL), d8 (R405). -/
def ldHlByte (d8 : Byte) (s : State) : Result :=
  andThen (s.store8 (s.getPair .hl) d8) fun t => n8Done 2 .ldHLD8 t

/-- The loads of A from memory (R406, R407, R410, R412, R414). -/
def loadA (a : Half) (len : Nat) (row : CostRow) (s : State) : Result :=
  andThen (s.load8 a) fun r => n8Done len row (r.2.set8 .a r.1)

/-- The stores of A to memory (R408, R409, R411, R413, R415). -/
def storeA (a : Half) (len : Nat) (row : CostRow) (s : State) : Result :=
  andThen (s.store8 a (s.get8 .a)) fun t => n8Done len row t

/-- LD A, (HL+) and LD A, (HL−) (R416, R417). -/
def loadAStep (step : Half) (s : State) : Result :=
  andThen (s.load8 (s.getPair .hl)) fun r =>
    n8Done 1 .ldAStep ((r.2.set8 .a r.1).setPair .hl (s.getPair .hl + step))

/-- LD (HL+), A and LD (HL−), A (R418, R419). -/
def storeAStep (step : Half) (s : State) : Result :=
  andThen (s.store8 (s.getPair .hl) (s.get8 .a)) fun t =>
    n8Done 1 .ldAStep (t.setPair .hl (s.getPair .hl + step))

/-- LD rr, d16 (R420). -/
def ldReg16 (r : R16) (d16 : Half) (s : State) : Result := n8Done 3 .ldR16 (s.set16 r d16)

/-- LD (a16), SP (R421): the low byte at a16, then the high byte at a16 + 1. -/
def storeSp (a16 : Half) (s : State) : Result :=
  andThen (s.store8 a16 (loByte s.sp)) fun t =>
    andThen (t.store8 (a16 + 1) (hiByte s.sp)) fun u => n8Done 3 .ldA16SP u

/-- LD SP, HL (R422). -/
def ldSpHl (s : State) : Result := n8Done 1 .ldSPHL { s with sp := s.getPair .hl }

/-- PUSH qq (R425). -/
def push (p : Pair) (s : State) : Result := andThen (s.push16 (s.getPair p)) fun t => n8Done 1 .push t

/-- POP qq (R426): one pair write, of all 8 bits of F for AF. -/
def pop (p : Pair) (s : State) : Result := andThen s.pop16 fun r => n8Done 1 .pop (r.2.setPair p r.1)

/-- LD BC,d16 (R420). -/
def execLd_bc_d16 (d16 : Half) (s : State) : Result :=
  ldReg16 .bc d16 s

/-- LD (BC),A (R408). -/
def execLd_mbc_a (s : State) : Result :=
  storeA (s.getPair .bc) 1 .ldAInd s

/-- LD B,d8 (R404). -/
def execLd_b_d8 (d8 : Byte) (s : State) : Result :=
  ldRegByte .b d8 s

/-- LD (a16),SP (R421). -/
def execLd_ma16_sp (a16 : Half) (s : State) : Result :=
  storeSp a16 s

/-- LD A,(BC) (R406). -/
def execLd_a_mbc (s : State) : Result :=
  loadA (s.getPair .bc) 1 .ldAInd s

/-- LD C,d8 (R404). -/
def execLd_c_d8 (d8 : Byte) (s : State) : Result :=
  ldRegByte .c d8 s

/-- LD DE,d16 (R420). -/
def execLd_de_d16 (d16 : Half) (s : State) : Result :=
  ldReg16 .de d16 s

/-- LD (DE),A (R409). -/
def execLd_mde_a (s : State) : Result :=
  storeA (s.getPair .de) 1 .ldAInd s

/-- LD D,d8 (R404). -/
def execLd_d_d8 (d8 : Byte) (s : State) : Result :=
  ldRegByte .d d8 s

/-- LD A,(DE) (R407). -/
def execLd_a_mde (s : State) : Result :=
  loadA (s.getPair .de) 1 .ldAInd s

/-- LD E,d8 (R404). -/
def execLd_e_d8 (d8 : Byte) (s : State) : Result :=
  ldRegByte .e d8 s

/-- LD HL,d16 (R420). -/
def execLd_hl_d16 (d16 : Half) (s : State) : Result :=
  ldReg16 .hl d16 s

/-- LD (HL+),A (R418). -/
def execLd_mhli_a (s : State) : Result :=
  storeAStep 1 s

/-- LD H,d8 (R404). -/
def execLd_h_d8 (d8 : Byte) (s : State) : Result :=
  ldRegByte .h d8 s

/-- LD A,(HL+) (R416). -/
def execLd_a_mhli (s : State) : Result :=
  loadAStep 1 s

/-- LD L,d8 (R404). -/
def execLd_l_d8 (d8 : Byte) (s : State) : Result :=
  ldRegByte .l d8 s

/-- LD SP,d16 (R420). -/
def execLd_sp_d16 (d16 : Half) (s : State) : Result :=
  ldReg16 .sp d16 s

/-- LD (HL-),A (R419). -/
def execLd_mhld_a (s : State) : Result :=
  storeAStep (-1) s

/-- LD (HL),d8 (R405). -/
def execLd_mhl_d8 (d8 : Byte) (s : State) : Result :=
  ldHlByte d8 s

/-- LD A,(HL-) (R417). -/
def execLd_a_mhld (s : State) : Result :=
  loadAStep (-1) s

/-- LD A,d8 (R404). -/
def execLd_a_d8 (d8 : Byte) (s : State) : Result :=
  ldRegByte .a d8 s

/-- LD B,B (R401). -/
def execLd_b_b (s : State) : Result :=
  ldRegReg .b .b s

/-- LD B,C (R401). -/
def execLd_b_c (s : State) : Result :=
  ldRegReg .b .c s

/-- LD B,D (R401). -/
def execLd_b_d (s : State) : Result :=
  ldRegReg .b .d s

/-- LD B,E (R401). -/
def execLd_b_e (s : State) : Result :=
  ldRegReg .b .e s

/-- LD B,H (R401). -/
def execLd_b_h (s : State) : Result :=
  ldRegReg .b .h s

/-- LD B,L (R401). -/
def execLd_b_l (s : State) : Result :=
  ldRegReg .b .l s

/-- LD B,(HL) (R402). -/
def execLd_b_mhl (s : State) : Result :=
  ldRegHl .b s

/-- LD B,A (R401). -/
def execLd_b_a (s : State) : Result :=
  ldRegReg .b .a s

/-- LD C,B (R401). -/
def execLd_c_b (s : State) : Result :=
  ldRegReg .c .b s

/-- LD C,C (R401). -/
def execLd_c_c (s : State) : Result :=
  ldRegReg .c .c s

/-- LD C,D (R401). -/
def execLd_c_d (s : State) : Result :=
  ldRegReg .c .d s

/-- LD C,E (R401). -/
def execLd_c_e (s : State) : Result :=
  ldRegReg .c .e s

/-- LD C,H (R401). -/
def execLd_c_h (s : State) : Result :=
  ldRegReg .c .h s

/-- LD C,L (R401). -/
def execLd_c_l (s : State) : Result :=
  ldRegReg .c .l s

/-- LD C,(HL) (R402). -/
def execLd_c_mhl (s : State) : Result :=
  ldRegHl .c s

/-- LD C,A (R401). -/
def execLd_c_a (s : State) : Result :=
  ldRegReg .c .a s

/-- LD D,B (R401). -/
def execLd_d_b (s : State) : Result :=
  ldRegReg .d .b s

/-- LD D,C (R401). -/
def execLd_d_c (s : State) : Result :=
  ldRegReg .d .c s

/-- LD D,D (R401). -/
def execLd_d_d (s : State) : Result :=
  ldRegReg .d .d s

/-- LD D,E (R401). -/
def execLd_d_e (s : State) : Result :=
  ldRegReg .d .e s

/-- LD D,H (R401). -/
def execLd_d_h (s : State) : Result :=
  ldRegReg .d .h s

/-- LD D,L (R401). -/
def execLd_d_l (s : State) : Result :=
  ldRegReg .d .l s

/-- LD D,(HL) (R402). -/
def execLd_d_mhl (s : State) : Result :=
  ldRegHl .d s

/-- LD D,A (R401). -/
def execLd_d_a (s : State) : Result :=
  ldRegReg .d .a s

/-- LD E,B (R401). -/
def execLd_e_b (s : State) : Result :=
  ldRegReg .e .b s

/-- LD E,C (R401). -/
def execLd_e_c (s : State) : Result :=
  ldRegReg .e .c s

/-- LD E,D (R401). -/
def execLd_e_d (s : State) : Result :=
  ldRegReg .e .d s

/-- LD E,E (R401). -/
def execLd_e_e (s : State) : Result :=
  ldRegReg .e .e s

/-- LD E,H (R401). -/
def execLd_e_h (s : State) : Result :=
  ldRegReg .e .h s

/-- LD E,L (R401). -/
def execLd_e_l (s : State) : Result :=
  ldRegReg .e .l s

/-- LD E,(HL) (R402). -/
def execLd_e_mhl (s : State) : Result :=
  ldRegHl .e s

/-- LD E,A (R401). -/
def execLd_e_a (s : State) : Result :=
  ldRegReg .e .a s

/-- LD H,B (R401). -/
def execLd_h_b (s : State) : Result :=
  ldRegReg .h .b s

/-- LD H,C (R401). -/
def execLd_h_c (s : State) : Result :=
  ldRegReg .h .c s

/-- LD H,D (R401). -/
def execLd_h_d (s : State) : Result :=
  ldRegReg .h .d s

/-- LD H,E (R401). -/
def execLd_h_e (s : State) : Result :=
  ldRegReg .h .e s

/-- LD H,H (R401). -/
def execLd_h_h (s : State) : Result :=
  ldRegReg .h .h s

/-- LD H,L (R401). -/
def execLd_h_l (s : State) : Result :=
  ldRegReg .h .l s

/-- LD H,(HL) (R402). -/
def execLd_h_mhl (s : State) : Result :=
  ldRegHl .h s

/-- LD H,A (R401). -/
def execLd_h_a (s : State) : Result :=
  ldRegReg .h .a s

/-- LD L,B (R401). -/
def execLd_l_b (s : State) : Result :=
  ldRegReg .l .b s

/-- LD L,C (R401). -/
def execLd_l_c (s : State) : Result :=
  ldRegReg .l .c s

/-- LD L,D (R401). -/
def execLd_l_d (s : State) : Result :=
  ldRegReg .l .d s

/-- LD L,E (R401). -/
def execLd_l_e (s : State) : Result :=
  ldRegReg .l .e s

/-- LD L,H (R401). -/
def execLd_l_h (s : State) : Result :=
  ldRegReg .l .h s

/-- LD L,L (R401). -/
def execLd_l_l (s : State) : Result :=
  ldRegReg .l .l s

/-- LD L,(HL) (R402). -/
def execLd_l_mhl (s : State) : Result :=
  ldRegHl .l s

/-- LD L,A (R401). -/
def execLd_l_a (s : State) : Result :=
  ldRegReg .l .a s

/-- LD (HL),B (R403). -/
def execLd_mhl_b (s : State) : Result :=
  ldHlReg .b s

/-- LD (HL),C (R403). -/
def execLd_mhl_c (s : State) : Result :=
  ldHlReg .c s

/-- LD (HL),D (R403). -/
def execLd_mhl_d (s : State) : Result :=
  ldHlReg .d s

/-- LD (HL),E (R403). -/
def execLd_mhl_e (s : State) : Result :=
  ldHlReg .e s

/-- LD (HL),H (R403). -/
def execLd_mhl_h (s : State) : Result :=
  ldHlReg .h s

/-- LD (HL),L (R403). -/
def execLd_mhl_l (s : State) : Result :=
  ldHlReg .l s

/-- LD (HL),A (R403). -/
def execLd_mhl_a (s : State) : Result :=
  ldHlReg .a s

/-- LD A,B (R401). -/
def execLd_a_b (s : State) : Result :=
  ldRegReg .a .b s

/-- LD A,C (R401). -/
def execLd_a_c (s : State) : Result :=
  ldRegReg .a .c s

/-- LD A,D (R401). -/
def execLd_a_d (s : State) : Result :=
  ldRegReg .a .d s

/-- LD A,E (R401). -/
def execLd_a_e (s : State) : Result :=
  ldRegReg .a .e s

/-- LD A,H (R401). -/
def execLd_a_h (s : State) : Result :=
  ldRegReg .a .h s

/-- LD A,L (R401). -/
def execLd_a_l (s : State) : Result :=
  ldRegReg .a .l s

/-- LD A,(HL) (R402). -/
def execLd_a_mhl (s : State) : Result :=
  ldRegHl .a s

/-- LD A,A (R401). -/
def execLd_a_a (s : State) : Result :=
  ldRegReg .a .a s

/-- POP BC (R426). -/
def execPop_bc (s : State) : Result :=
  pop .bc s

/-- PUSH BC (R425). -/
def execPush_bc (s : State) : Result :=
  push .bc s

/-- POP DE (R426). -/
def execPop_de (s : State) : Result :=
  pop .de s

/-- PUSH DE (R425). -/
def execPush_de (s : State) : Result :=
  push .de s

/-- LDH (a8),A (R413). -/
def execLdh_ma8_a (a8 : Byte) (s : State) : Result :=
  storeA (highPage a8) 2 .ldh s

/-- POP HL (R426). -/
def execPop_hl (s : State) : Result :=
  pop .hl s

/-- LD (C),A (R415). -/
def execLd_mc_a (s : State) : Result :=
  storeA (highPage (s.get8 .c)) 1 .ldAC s

/-- PUSH HL (R425). -/
def execPush_hl (s : State) : Result :=
  push .hl s

/-- LD (a16),A (R411). -/
def execLd_ma16_a (a16 : Half) (s : State) : Result :=
  storeA a16 3 .ldAAbs s

/-- LDH A,(a8) (R412). -/
def execLdh_a_ma8 (a8 : Byte) (s : State) : Result :=
  loadA (highPage a8) 2 .ldh s

/-- POP AF (R426). -/
def execPop_af (s : State) : Result :=
  pop .af s

/-- LD A,(C) (R414). -/
def execLd_a_mc (s : State) : Result :=
  loadA (highPage (s.get8 .c)) 1 .ldAC s

/-- PUSH AF (R425). -/
def execPush_af (s : State) : Result :=
  push .af s

/-- LD SP,HL (R422). -/
def execLd_sp_hl (s : State) : Result :=
  ldSpHl s

/-- LD A,(a16) (R410). -/
def execLd_a_ma16 (a16 : Half) (s : State) : Result :=
  loadA a16 3 .ldAAbs s

end Sys2Proof.Machine
end

