-- ==== Sys2Proof/Machine/Dispatch.lean ====
section
/-! DEFINITION. The dispatch: one arm per instruction, in the opcode table's order. -/

namespace Sys2Proof.Machine

def exec (i : Instr) (s : State) : Host.Outcome State Fault Refusal :=
  match i with
  | .b cond offset24 => Sys2Proof.Machine.execB cond offset24 s
  | .bl cond offset24 => Sys2Proof.Machine.execBl cond offset24 s
  | .bx cond rm => Sys2Proof.Machine.execBx cond rm s
  | .andImm cond sf rn rd op => Sys2Proof.Machine.execAndImm cond sf rn rd op s
  | .andShift cond sf rn rd op => Sys2Proof.Machine.execAndShift cond sf rn rd op s
  | .andShiftReg cond sf rn rd op => Sys2Proof.Machine.execAndShiftReg cond sf rn rd op s
  | .eorImm cond sf rn rd op => Sys2Proof.Machine.execEorImm cond sf rn rd op s
  | .eorShift cond sf rn rd op => Sys2Proof.Machine.execEorShift cond sf rn rd op s
  | .eorShiftReg cond sf rn rd op => Sys2Proof.Machine.execEorShiftReg cond sf rn rd op s
  | .subImm cond sf rn rd op => Sys2Proof.Machine.execSubImm cond sf rn rd op s
  | .subShift cond sf rn rd op => Sys2Proof.Machine.execSubShift cond sf rn rd op s
  | .subShiftReg cond sf rn rd op => Sys2Proof.Machine.execSubShiftReg cond sf rn rd op s
  | .rsbImm cond sf rn rd op => Sys2Proof.Machine.execRsbImm cond sf rn rd op s
  | .rsbShift cond sf rn rd op => Sys2Proof.Machine.execRsbShift cond sf rn rd op s
  | .rsbShiftReg cond sf rn rd op => Sys2Proof.Machine.execRsbShiftReg cond sf rn rd op s
  | .addImm cond sf rn rd op => Sys2Proof.Machine.execAddImm cond sf rn rd op s
  | .addShift cond sf rn rd op => Sys2Proof.Machine.execAddShift cond sf rn rd op s
  | .addShiftReg cond sf rn rd op => Sys2Proof.Machine.execAddShiftReg cond sf rn rd op s
  | .adcImm cond sf rn rd op => Sys2Proof.Machine.execAdcImm cond sf rn rd op s
  | .adcShift cond sf rn rd op => Sys2Proof.Machine.execAdcShift cond sf rn rd op s
  | .adcShiftReg cond sf rn rd op => Sys2Proof.Machine.execAdcShiftReg cond sf rn rd op s
  | .sbcImm cond sf rn rd op => Sys2Proof.Machine.execSbcImm cond sf rn rd op s
  | .sbcShift cond sf rn rd op => Sys2Proof.Machine.execSbcShift cond sf rn rd op s
  | .sbcShiftReg cond sf rn rd op => Sys2Proof.Machine.execSbcShiftReg cond sf rn rd op s
  | .rscImm cond sf rn rd op => Sys2Proof.Machine.execRscImm cond sf rn rd op s
  | .rscShift cond sf rn rd op => Sys2Proof.Machine.execRscShift cond sf rn rd op s
  | .rscShiftReg cond sf rn rd op => Sys2Proof.Machine.execRscShiftReg cond sf rn rd op s
  | .tstImm cond rn op => Sys2Proof.Machine.execTstImm cond rn op s
  | .tstShift cond rn op => Sys2Proof.Machine.execTstShift cond rn op s
  | .tstShiftReg cond rn op => Sys2Proof.Machine.execTstShiftReg cond rn op s
  | .teqImm cond rn op => Sys2Proof.Machine.execTeqImm cond rn op s
  | .teqShift cond rn op => Sys2Proof.Machine.execTeqShift cond rn op s
  | .teqShiftReg cond rn op => Sys2Proof.Machine.execTeqShiftReg cond rn op s
  | .cmpImm cond rn op => Sys2Proof.Machine.execCmpImm cond rn op s
  | .cmpShift cond rn op => Sys2Proof.Machine.execCmpShift cond rn op s
  | .cmpShiftReg cond rn op => Sys2Proof.Machine.execCmpShiftReg cond rn op s
  | .cmnImm cond rn op => Sys2Proof.Machine.execCmnImm cond rn op s
  | .cmnShift cond rn op => Sys2Proof.Machine.execCmnShift cond rn op s
  | .cmnShiftReg cond rn op => Sys2Proof.Machine.execCmnShiftReg cond rn op s
  | .orrImm cond sf rn rd op => Sys2Proof.Machine.execOrrImm cond sf rn rd op s
  | .orrShift cond sf rn rd op => Sys2Proof.Machine.execOrrShift cond sf rn rd op s
  | .orrShiftReg cond sf rn rd op => Sys2Proof.Machine.execOrrShiftReg cond sf rn rd op s
  | .movImm cond sf rd op => Sys2Proof.Machine.execMovImm cond sf rd op s
  | .movShift cond sf rd op => Sys2Proof.Machine.execMovShift cond sf rd op s
  | .movShiftReg cond sf rd op => Sys2Proof.Machine.execMovShiftReg cond sf rd op s
  | .bicImm cond sf rn rd op => Sys2Proof.Machine.execBicImm cond sf rn rd op s
  | .bicShift cond sf rn rd op => Sys2Proof.Machine.execBicShift cond sf rn rd op s
  | .bicShiftReg cond sf rn rd op => Sys2Proof.Machine.execBicShiftReg cond sf rn rd op s
  | .mvnImm cond sf rd op => Sys2Proof.Machine.execMvnImm cond sf rd op s
  | .mvnShift cond sf rd op => Sys2Proof.Machine.execMvnShift cond sf rd op s
  | .mvnShiftReg cond sf rd op => Sys2Proof.Machine.execMvnShiftReg cond sf rd op s
  | .mrs cond rd => Sys2Proof.Machine.execMrs cond rd s
  | .msrReg cond mask rm => Sys2Proof.Machine.execMsrReg cond mask rm s
  | .msrImm cond mask op => Sys2Proof.Machine.execMsrImm cond mask op s
  | .mul cond sf rd rs rm => Sys2Proof.Machine.execMul cond sf rd rs rm s
  | .mla cond sf rd rn rs rm => Sys2Proof.Machine.execMla cond sf rd rn rs rm s
  | .umull cond sf rdHi rdLo rs rm => Sys2Proof.Machine.execUmull cond sf rdHi rdLo rs rm s
  | .umlal cond sf rdHi rdLo rs rm => Sys2Proof.Machine.execUmlal cond sf rdHi rdLo rs rm s
  | .smull cond sf rdHi rdLo rs rm => Sys2Proof.Machine.execSmull cond sf rdHi rdLo rs rm s
  | .smlal cond sf rdHi rdLo rs rm => Sys2Proof.Machine.execSmlal cond sf rdHi rdLo rs rm s
  | .swp cond rn rd rm => Sys2Proof.Machine.execSwp cond rn rd rm s
  | .swpb cond rn rd rm => Sys2Proof.Machine.execSwpb cond rn rd rm s
  | .ldrImmPre cond up wb rn rd imm12 => Sys2Proof.Machine.execLdrImmPre cond up wb rn rd imm12 s
  | .ldrImmPost cond up rn rd imm12 => Sys2Proof.Machine.execLdrImmPost cond up rn rd imm12 s
  | .ldrRegPre cond up wb rn rd op => Sys2Proof.Machine.execLdrRegPre cond up wb rn rd op s
  | .ldrRegPost cond up rn rd op => Sys2Proof.Machine.execLdrRegPost cond up rn rd op s
  | .ldrtImm cond up rn rd imm12 => Sys2Proof.Machine.execLdrtImm cond up rn rd imm12 s
  | .ldrtReg cond up rn rd op => Sys2Proof.Machine.execLdrtReg cond up rn rd op s
  | .ldrbImmPre cond up wb rn rd imm12 => Sys2Proof.Machine.execLdrbImmPre cond up wb rn rd imm12 s
  | .ldrbImmPost cond up rn rd imm12 => Sys2Proof.Machine.execLdrbImmPost cond up rn rd imm12 s
  | .ldrbRegPre cond up wb rn rd op => Sys2Proof.Machine.execLdrbRegPre cond up wb rn rd op s
  | .ldrbRegPost cond up rn rd op => Sys2Proof.Machine.execLdrbRegPost cond up rn rd op s
  | .ldrbtImm cond up rn rd imm12 => Sys2Proof.Machine.execLdrbtImm cond up rn rd imm12 s
  | .ldrbtReg cond up rn rd op => Sys2Proof.Machine.execLdrbtReg cond up rn rd op s
  | .strImmPre cond up wb rn rd imm12 => Sys2Proof.Machine.execStrImmPre cond up wb rn rd imm12 s
  | .strImmPost cond up rn rd imm12 => Sys2Proof.Machine.execStrImmPost cond up rn rd imm12 s
  | .strRegPre cond up wb rn rd op => Sys2Proof.Machine.execStrRegPre cond up wb rn rd op s
  | .strRegPost cond up rn rd op => Sys2Proof.Machine.execStrRegPost cond up rn rd op s
  | .strtImm cond up rn rd imm12 => Sys2Proof.Machine.execStrtImm cond up rn rd imm12 s
  | .strtReg cond up rn rd op => Sys2Proof.Machine.execStrtReg cond up rn rd op s
  | .strbImmPre cond up wb rn rd imm12 => Sys2Proof.Machine.execStrbImmPre cond up wb rn rd imm12 s
  | .strbImmPost cond up rn rd imm12 => Sys2Proof.Machine.execStrbImmPost cond up rn rd imm12 s
  | .strbRegPre cond up wb rn rd op => Sys2Proof.Machine.execStrbRegPre cond up wb rn rd op s
  | .strbRegPost cond up rn rd op => Sys2Proof.Machine.execStrbRegPost cond up rn rd op s
  | .strbtImm cond up rn rd imm12 => Sys2Proof.Machine.execStrbtImm cond up rn rd imm12 s
  | .strbtReg cond up rn rd op => Sys2Proof.Machine.execStrbtReg cond up rn rd op s
  | .ldrhImm cond pre up wb rn rd imm8 => Sys2Proof.Machine.execLdrhImm cond pre up wb rn rd imm8 s
  | .ldrhReg cond pre up wb rn rd rm => Sys2Proof.Machine.execLdrhReg cond pre up wb rn rd rm s
  | .strhImm cond pre up wb rn rd imm8 => Sys2Proof.Machine.execStrhImm cond pre up wb rn rd imm8 s
  | .strhReg cond pre up wb rn rd rm => Sys2Proof.Machine.execStrhReg cond pre up wb rn rd rm s
  | .ldrsbImm cond pre up wb rn rd imm8 => Sys2Proof.Machine.execLdrsbImm cond pre up wb rn rd imm8 s
  | .ldrsbReg cond pre up wb rn rd rm => Sys2Proof.Machine.execLdrsbReg cond pre up wb rn rd rm s
  | .ldrshImm cond pre up wb rn rd imm8 => Sys2Proof.Machine.execLdrshImm cond pre up wb rn rd imm8 s
  | .ldrshReg cond pre up wb rn rd rm => Sys2Proof.Machine.execLdrshReg cond pre up wb rn rd rm s
  | .ldmda cond wb rn list => Sys2Proof.Machine.execLdmda cond wb rn list s
  | .ldmia cond wb rn list => Sys2Proof.Machine.execLdmia cond wb rn list s
  | .ldmdb cond wb rn list => Sys2Proof.Machine.execLdmdb cond wb rn list s
  | .ldmib cond wb rn list => Sys2Proof.Machine.execLdmib cond wb rn list s
  | .stmda cond wb rn list => Sys2Proof.Machine.execStmda cond wb rn list s
  | .stmia cond wb rn list => Sys2Proof.Machine.execStmia cond wb rn list s
  | .stmdb cond wb rn list => Sys2Proof.Machine.execStmdb cond wb rn list s
  | .stmib cond wb rn list => Sys2Proof.Machine.execStmib cond wb rn list s
  | .nop => Sys2Proof.Machine.execNop s
  | .ld_bc_d16 d16 => Sys2Proof.Machine.execLd_bc_d16 d16 s
  | .ld_mbc_a => Sys2Proof.Machine.execLd_mbc_a s
  | .inc_bc => Sys2Proof.Machine.execInc_bc s
  | .inc_b => Sys2Proof.Machine.execInc_b s
  | .dec_b => Sys2Proof.Machine.execDec_b s
  | .ld_b_d8 d8 => Sys2Proof.Machine.execLd_b_d8 d8 s
  | .rlca => Sys2Proof.Machine.execRlca s
  | .ld_ma16_sp a16 => Sys2Proof.Machine.execLd_ma16_sp a16 s
  | .add_hl_bc => Sys2Proof.Machine.execAdd_hl_bc s
  | .ld_a_mbc => Sys2Proof.Machine.execLd_a_mbc s
  | .dec_bc => Sys2Proof.Machine.execDec_bc s
  | .inc_c => Sys2Proof.Machine.execInc_c s
  | .dec_c => Sys2Proof.Machine.execDec_c s
  | .ld_c_d8 d8 => Sys2Proof.Machine.execLd_c_d8 d8 s
  | .rrca => Sys2Proof.Machine.execRrca s
  | .ld_de_d16 d16 => Sys2Proof.Machine.execLd_de_d16 d16 s
  | .ld_mde_a => Sys2Proof.Machine.execLd_mde_a s
  | .inc_de => Sys2Proof.Machine.execInc_de s
  | .inc_d => Sys2Proof.Machine.execInc_d s
  | .dec_d => Sys2Proof.Machine.execDec_d s
  | .ld_d_d8 d8 => Sys2Proof.Machine.execLd_d_d8 d8 s
  | .rla => Sys2Proof.Machine.execRla s
  | .jr_e8 e8 => Sys2Proof.Machine.execJr_e8 e8 s
  | .add_hl_de => Sys2Proof.Machine.execAdd_hl_de s
  | .ld_a_mde => Sys2Proof.Machine.execLd_a_mde s
  | .dec_de => Sys2Proof.Machine.execDec_de s
  | .inc_e => Sys2Proof.Machine.execInc_e s
  | .dec_e => Sys2Proof.Machine.execDec_e s
  | .ld_e_d8 d8 => Sys2Proof.Machine.execLd_e_d8 d8 s
  | .rra => Sys2Proof.Machine.execRra s
  | .jr_nz_e8 e8 => Sys2Proof.Machine.execJr_nz_e8 e8 s
  | .ld_hl_d16 d16 => Sys2Proof.Machine.execLd_hl_d16 d16 s
  | .ld_mhli_a => Sys2Proof.Machine.execLd_mhli_a s
  | .inc_hl => Sys2Proof.Machine.execInc_hl s
  | .inc_h => Sys2Proof.Machine.execInc_h s
  | .dec_h => Sys2Proof.Machine.execDec_h s
  | .ld_h_d8 d8 => Sys2Proof.Machine.execLd_h_d8 d8 s
  | .daa => Sys2Proof.Machine.execDaa s
  | .jr_z_e8 e8 => Sys2Proof.Machine.execJr_z_e8 e8 s
  | .add_hl_hl => Sys2Proof.Machine.execAdd_hl_hl s
  | .ld_a_mhli => Sys2Proof.Machine.execLd_a_mhli s
  | .dec_hl => Sys2Proof.Machine.execDec_hl s
  | .inc_l => Sys2Proof.Machine.execInc_l s
  | .dec_l => Sys2Proof.Machine.execDec_l s
  | .ld_l_d8 d8 => Sys2Proof.Machine.execLd_l_d8 d8 s
  | .cpl => Sys2Proof.Machine.execCpl s
  | .jr_nc_e8 e8 => Sys2Proof.Machine.execJr_nc_e8 e8 s
  | .ld_sp_d16 d16 => Sys2Proof.Machine.execLd_sp_d16 d16 s
  | .ld_mhld_a => Sys2Proof.Machine.execLd_mhld_a s
  | .inc_sp => Sys2Proof.Machine.execInc_sp s
  | .inc_mhl => Sys2Proof.Machine.execInc_mhl s
  | .dec_mhl => Sys2Proof.Machine.execDec_mhl s
  | .ld_mhl_d8 d8 => Sys2Proof.Machine.execLd_mhl_d8 d8 s
  | .scf => Sys2Proof.Machine.execScf s
  | .jr_c_e8 e8 => Sys2Proof.Machine.execJr_c_e8 e8 s
  | .add_hl_sp => Sys2Proof.Machine.execAdd_hl_sp s
  | .ld_a_mhld => Sys2Proof.Machine.execLd_a_mhld s
  | .dec_sp => Sys2Proof.Machine.execDec_sp s
  | .inc_a => Sys2Proof.Machine.execInc_a s
  | .dec_a => Sys2Proof.Machine.execDec_a s
  | .ld_a_d8 d8 => Sys2Proof.Machine.execLd_a_d8 d8 s
  | .ccf => Sys2Proof.Machine.execCcf s
  | .ld_b_b => Sys2Proof.Machine.execLd_b_b s
  | .ld_b_c => Sys2Proof.Machine.execLd_b_c s
  | .ld_b_d => Sys2Proof.Machine.execLd_b_d s
  | .ld_b_e => Sys2Proof.Machine.execLd_b_e s
  | .ld_b_h => Sys2Proof.Machine.execLd_b_h s
  | .ld_b_l => Sys2Proof.Machine.execLd_b_l s
  | .ld_b_mhl => Sys2Proof.Machine.execLd_b_mhl s
  | .ld_b_a => Sys2Proof.Machine.execLd_b_a s
  | .ld_c_b => Sys2Proof.Machine.execLd_c_b s
  | .ld_c_c => Sys2Proof.Machine.execLd_c_c s
  | .ld_c_d => Sys2Proof.Machine.execLd_c_d s
  | .ld_c_e => Sys2Proof.Machine.execLd_c_e s
  | .ld_c_h => Sys2Proof.Machine.execLd_c_h s
  | .ld_c_l => Sys2Proof.Machine.execLd_c_l s
  | .ld_c_mhl => Sys2Proof.Machine.execLd_c_mhl s
  | .ld_c_a => Sys2Proof.Machine.execLd_c_a s
  | .ld_d_b => Sys2Proof.Machine.execLd_d_b s
  | .ld_d_c => Sys2Proof.Machine.execLd_d_c s
  | .ld_d_d => Sys2Proof.Machine.execLd_d_d s
  | .ld_d_e => Sys2Proof.Machine.execLd_d_e s
  | .ld_d_h => Sys2Proof.Machine.execLd_d_h s
  | .ld_d_l => Sys2Proof.Machine.execLd_d_l s
  | .ld_d_mhl => Sys2Proof.Machine.execLd_d_mhl s
  | .ld_d_a => Sys2Proof.Machine.execLd_d_a s
  | .ld_e_b => Sys2Proof.Machine.execLd_e_b s
  | .ld_e_c => Sys2Proof.Machine.execLd_e_c s
  | .ld_e_d => Sys2Proof.Machine.execLd_e_d s
  | .ld_e_e => Sys2Proof.Machine.execLd_e_e s
  | .ld_e_h => Sys2Proof.Machine.execLd_e_h s
  | .ld_e_l => Sys2Proof.Machine.execLd_e_l s
  | .ld_e_mhl => Sys2Proof.Machine.execLd_e_mhl s
  | .ld_e_a => Sys2Proof.Machine.execLd_e_a s
  | .ld_h_b => Sys2Proof.Machine.execLd_h_b s
  | .ld_h_c => Sys2Proof.Machine.execLd_h_c s
  | .ld_h_d => Sys2Proof.Machine.execLd_h_d s
  | .ld_h_e => Sys2Proof.Machine.execLd_h_e s
  | .ld_h_h => Sys2Proof.Machine.execLd_h_h s
  | .ld_h_l => Sys2Proof.Machine.execLd_h_l s
  | .ld_h_mhl => Sys2Proof.Machine.execLd_h_mhl s
  | .ld_h_a => Sys2Proof.Machine.execLd_h_a s
  | .ld_l_b => Sys2Proof.Machine.execLd_l_b s
  | .ld_l_c => Sys2Proof.Machine.execLd_l_c s
  | .ld_l_d => Sys2Proof.Machine.execLd_l_d s
  | .ld_l_e => Sys2Proof.Machine.execLd_l_e s
  | .ld_l_h => Sys2Proof.Machine.execLd_l_h s
  | .ld_l_l => Sys2Proof.Machine.execLd_l_l s
  | .ld_l_mhl => Sys2Proof.Machine.execLd_l_mhl s
  | .ld_l_a => Sys2Proof.Machine.execLd_l_a s
  | .ld_mhl_b => Sys2Proof.Machine.execLd_mhl_b s
  | .ld_mhl_c => Sys2Proof.Machine.execLd_mhl_c s
  | .ld_mhl_d => Sys2Proof.Machine.execLd_mhl_d s
  | .ld_mhl_e => Sys2Proof.Machine.execLd_mhl_e s
  | .ld_mhl_h => Sys2Proof.Machine.execLd_mhl_h s
  | .ld_mhl_l => Sys2Proof.Machine.execLd_mhl_l s
  | .halt => Sys2Proof.Machine.execHalt s
  | .ld_mhl_a => Sys2Proof.Machine.execLd_mhl_a s
  | .ld_a_b => Sys2Proof.Machine.execLd_a_b s
  | .ld_a_c => Sys2Proof.Machine.execLd_a_c s
  | .ld_a_d => Sys2Proof.Machine.execLd_a_d s
  | .ld_a_e => Sys2Proof.Machine.execLd_a_e s
  | .ld_a_h => Sys2Proof.Machine.execLd_a_h s
  | .ld_a_l => Sys2Proof.Machine.execLd_a_l s
  | .ld_a_mhl => Sys2Proof.Machine.execLd_a_mhl s
  | .ld_a_a => Sys2Proof.Machine.execLd_a_a s
  | .add_a_b => Sys2Proof.Machine.execAdd_a_b s
  | .add_a_c => Sys2Proof.Machine.execAdd_a_c s
  | .add_a_d => Sys2Proof.Machine.execAdd_a_d s
  | .add_a_e => Sys2Proof.Machine.execAdd_a_e s
  | .add_a_h => Sys2Proof.Machine.execAdd_a_h s
  | .add_a_l => Sys2Proof.Machine.execAdd_a_l s
  | .add_a_mhl => Sys2Proof.Machine.execAdd_a_mhl s
  | .add_a_a => Sys2Proof.Machine.execAdd_a_a s
  | .adc_a_b => Sys2Proof.Machine.execAdc_a_b s
  | .adc_a_c => Sys2Proof.Machine.execAdc_a_c s
  | .adc_a_d => Sys2Proof.Machine.execAdc_a_d s
  | .adc_a_e => Sys2Proof.Machine.execAdc_a_e s
  | .adc_a_h => Sys2Proof.Machine.execAdc_a_h s
  | .adc_a_l => Sys2Proof.Machine.execAdc_a_l s
  | .adc_a_mhl => Sys2Proof.Machine.execAdc_a_mhl s
  | .adc_a_a => Sys2Proof.Machine.execAdc_a_a s
  | .sub_b => Sys2Proof.Machine.execSub_b s
  | .sub_c => Sys2Proof.Machine.execSub_c s
  | .sub_d => Sys2Proof.Machine.execSub_d s
  | .sub_e => Sys2Proof.Machine.execSub_e s
  | .sub_h => Sys2Proof.Machine.execSub_h s
  | .sub_l => Sys2Proof.Machine.execSub_l s
  | .sub_mhl => Sys2Proof.Machine.execSub_mhl s
  | .sub_a => Sys2Proof.Machine.execSub_a s
  | .sbc_a_b => Sys2Proof.Machine.execSbc_a_b s
  | .sbc_a_c => Sys2Proof.Machine.execSbc_a_c s
  | .sbc_a_d => Sys2Proof.Machine.execSbc_a_d s
  | .sbc_a_e => Sys2Proof.Machine.execSbc_a_e s
  | .sbc_a_h => Sys2Proof.Machine.execSbc_a_h s
  | .sbc_a_l => Sys2Proof.Machine.execSbc_a_l s
  | .sbc_a_mhl => Sys2Proof.Machine.execSbc_a_mhl s
  | .sbc_a_a => Sys2Proof.Machine.execSbc_a_a s
  | .and_b => Sys2Proof.Machine.execAnd_b s
  | .and_c => Sys2Proof.Machine.execAnd_c s
  | .and_d => Sys2Proof.Machine.execAnd_d s
  | .and_e => Sys2Proof.Machine.execAnd_e s
  | .and_h => Sys2Proof.Machine.execAnd_h s
  | .and_l => Sys2Proof.Machine.execAnd_l s
  | .and_mhl => Sys2Proof.Machine.execAnd_mhl s
  | .and_a => Sys2Proof.Machine.execAnd_a s
  | .xor_b => Sys2Proof.Machine.execXor_b s
  | .xor_c => Sys2Proof.Machine.execXor_c s
  | .xor_d => Sys2Proof.Machine.execXor_d s
  | .xor_e => Sys2Proof.Machine.execXor_e s
  | .xor_h => Sys2Proof.Machine.execXor_h s
  | .xor_l => Sys2Proof.Machine.execXor_l s
  | .xor_mhl => Sys2Proof.Machine.execXor_mhl s
  | .xor_a => Sys2Proof.Machine.execXor_a s
  | .or_b => Sys2Proof.Machine.execOr_b s
  | .or_c => Sys2Proof.Machine.execOr_c s
  | .or_d => Sys2Proof.Machine.execOr_d s
  | .or_e => Sys2Proof.Machine.execOr_e s
  | .or_h => Sys2Proof.Machine.execOr_h s
  | .or_l => Sys2Proof.Machine.execOr_l s
  | .or_mhl => Sys2Proof.Machine.execOr_mhl s
  | .or_a => Sys2Proof.Machine.execOr_a s
  | .cp_b => Sys2Proof.Machine.execCp_b s
  | .cp_c => Sys2Proof.Machine.execCp_c s
  | .cp_d => Sys2Proof.Machine.execCp_d s
  | .cp_e => Sys2Proof.Machine.execCp_e s
  | .cp_h => Sys2Proof.Machine.execCp_h s
  | .cp_l => Sys2Proof.Machine.execCp_l s
  | .cp_mhl => Sys2Proof.Machine.execCp_mhl s
  | .cp_a => Sys2Proof.Machine.execCp_a s
  | .ret_nz => Sys2Proof.Machine.execRet_nz s
  | .pop_bc => Sys2Proof.Machine.execPop_bc s
  | .jp_nz_a16 a16 => Sys2Proof.Machine.execJp_nz_a16 a16 s
  | .jp_a16 a16 => Sys2Proof.Machine.execJp_a16 a16 s
  | .call_nz_a16 a16 => Sys2Proof.Machine.execCall_nz_a16 a16 s
  | .push_bc => Sys2Proof.Machine.execPush_bc s
  | .add_a_d8 d8 => Sys2Proof.Machine.execAdd_a_d8 d8 s
  | .rst_00 => Sys2Proof.Machine.execRst_00 s
  | .ret_z => Sys2Proof.Machine.execRet_z s
  | .ret => Sys2Proof.Machine.execRet s
  | .jp_z_a16 a16 => Sys2Proof.Machine.execJp_z_a16 a16 s
  | .call_z_a16 a16 => Sys2Proof.Machine.execCall_z_a16 a16 s
  | .call_a16 a16 => Sys2Proof.Machine.execCall_a16 a16 s
  | .adc_a_d8 d8 => Sys2Proof.Machine.execAdc_a_d8 d8 s
  | .rst_08 => Sys2Proof.Machine.execRst_08 s
  | .ret_nc => Sys2Proof.Machine.execRet_nc s
  | .pop_de => Sys2Proof.Machine.execPop_de s
  | .jp_nc_a16 a16 => Sys2Proof.Machine.execJp_nc_a16 a16 s
  | .call_nc_a16 a16 => Sys2Proof.Machine.execCall_nc_a16 a16 s
  | .push_de => Sys2Proof.Machine.execPush_de s
  | .sub_d8 d8 => Sys2Proof.Machine.execSub_d8 d8 s
  | .rst_10 => Sys2Proof.Machine.execRst_10 s
  | .ret_c => Sys2Proof.Machine.execRet_c s
  | .jp_c_a16 a16 => Sys2Proof.Machine.execJp_c_a16 a16 s
  | .call_c_a16 a16 => Sys2Proof.Machine.execCall_c_a16 a16 s
  | .sbc_a_d8 d8 => Sys2Proof.Machine.execSbc_a_d8 d8 s
  | .rst_18 => Sys2Proof.Machine.execRst_18 s
  | .ldh_ma8_a a8 => Sys2Proof.Machine.execLdh_ma8_a a8 s
  | .pop_hl => Sys2Proof.Machine.execPop_hl s
  | .ld_mc_a => Sys2Proof.Machine.execLd_mc_a s
  | .push_hl => Sys2Proof.Machine.execPush_hl s
  | .and_d8 d8 => Sys2Proof.Machine.execAnd_d8 d8 s
  | .rst_20 => Sys2Proof.Machine.execRst_20 s
  | .add_sp_e8 e8 => Sys2Proof.Machine.execAdd_sp_e8 e8 s
  | .jp_hl => Sys2Proof.Machine.execJp_hl s
  | .ld_ma16_a a16 => Sys2Proof.Machine.execLd_ma16_a a16 s
  | .xor_d8 d8 => Sys2Proof.Machine.execXor_d8 d8 s
  | .rst_28 => Sys2Proof.Machine.execRst_28 s
  | .ldh_a_ma8 a8 => Sys2Proof.Machine.execLdh_a_ma8 a8 s
  | .pop_af => Sys2Proof.Machine.execPop_af s
  | .ld_a_mc => Sys2Proof.Machine.execLd_a_mc s
  | .push_af => Sys2Proof.Machine.execPush_af s
  | .or_d8 d8 => Sys2Proof.Machine.execOr_d8 d8 s
  | .rst_30 => Sys2Proof.Machine.execRst_30 s
  | .ld_hl_sp_e8 e8 => Sys2Proof.Machine.execLd_hl_sp_e8 e8 s
  | .ld_sp_hl => Sys2Proof.Machine.execLd_sp_hl s
  | .ld_a_ma16 a16 => Sys2Proof.Machine.execLd_a_ma16 a16 s
  | .cp_d8 d8 => Sys2Proof.Machine.execCp_d8 d8 s
  | .rst_38 => Sys2Proof.Machine.execRst_38 s
  | .rlc_b => Sys2Proof.Machine.execRlc_b s
  | .rlc_c => Sys2Proof.Machine.execRlc_c s
  | .rlc_d => Sys2Proof.Machine.execRlc_d s
  | .rlc_e => Sys2Proof.Machine.execRlc_e s
  | .rlc_h => Sys2Proof.Machine.execRlc_h s
  | .rlc_l => Sys2Proof.Machine.execRlc_l s
  | .rlc_mhl => Sys2Proof.Machine.execRlc_mhl s
  | .rlc_a => Sys2Proof.Machine.execRlc_a s
  | .rrc_b => Sys2Proof.Machine.execRrc_b s
  | .rrc_c => Sys2Proof.Machine.execRrc_c s
  | .rrc_d => Sys2Proof.Machine.execRrc_d s
  | .rrc_e => Sys2Proof.Machine.execRrc_e s
  | .rrc_h => Sys2Proof.Machine.execRrc_h s
  | .rrc_l => Sys2Proof.Machine.execRrc_l s
  | .rrc_mhl => Sys2Proof.Machine.execRrc_mhl s
  | .rrc_a => Sys2Proof.Machine.execRrc_a s
  | .rl_b => Sys2Proof.Machine.execRl_b s
  | .rl_c => Sys2Proof.Machine.execRl_c s
  | .rl_d => Sys2Proof.Machine.execRl_d s
  | .rl_e => Sys2Proof.Machine.execRl_e s
  | .rl_h => Sys2Proof.Machine.execRl_h s
  | .rl_l => Sys2Proof.Machine.execRl_l s
  | .rl_mhl => Sys2Proof.Machine.execRl_mhl s
  | .rl_a => Sys2Proof.Machine.execRl_a s
  | .rr_b => Sys2Proof.Machine.execRr_b s
  | .rr_c => Sys2Proof.Machine.execRr_c s
  | .rr_d => Sys2Proof.Machine.execRr_d s
  | .rr_e => Sys2Proof.Machine.execRr_e s
  | .rr_h => Sys2Proof.Machine.execRr_h s
  | .rr_l => Sys2Proof.Machine.execRr_l s
  | .rr_mhl => Sys2Proof.Machine.execRr_mhl s
  | .rr_a => Sys2Proof.Machine.execRr_a s
  | .sla_b => Sys2Proof.Machine.execSla_b s
  | .sla_c => Sys2Proof.Machine.execSla_c s
  | .sla_d => Sys2Proof.Machine.execSla_d s
  | .sla_e => Sys2Proof.Machine.execSla_e s
  | .sla_h => Sys2Proof.Machine.execSla_h s
  | .sla_l => Sys2Proof.Machine.execSla_l s
  | .sla_mhl => Sys2Proof.Machine.execSla_mhl s
  | .sla_a => Sys2Proof.Machine.execSla_a s
  | .sra_b => Sys2Proof.Machine.execSra_b s
  | .sra_c => Sys2Proof.Machine.execSra_c s
  | .sra_d => Sys2Proof.Machine.execSra_d s
  | .sra_e => Sys2Proof.Machine.execSra_e s
  | .sra_h => Sys2Proof.Machine.execSra_h s
  | .sra_l => Sys2Proof.Machine.execSra_l s
  | .sra_mhl => Sys2Proof.Machine.execSra_mhl s
  | .sra_a => Sys2Proof.Machine.execSra_a s
  | .swap_b => Sys2Proof.Machine.execSwap_b s
  | .swap_c => Sys2Proof.Machine.execSwap_c s
  | .swap_d => Sys2Proof.Machine.execSwap_d s
  | .swap_e => Sys2Proof.Machine.execSwap_e s
  | .swap_h => Sys2Proof.Machine.execSwap_h s
  | .swap_l => Sys2Proof.Machine.execSwap_l s
  | .swap_mhl => Sys2Proof.Machine.execSwap_mhl s
  | .swap_a => Sys2Proof.Machine.execSwap_a s
  | .srl_b => Sys2Proof.Machine.execSrl_b s
  | .srl_c => Sys2Proof.Machine.execSrl_c s
  | .srl_d => Sys2Proof.Machine.execSrl_d s
  | .srl_e => Sys2Proof.Machine.execSrl_e s
  | .srl_h => Sys2Proof.Machine.execSrl_h s
  | .srl_l => Sys2Proof.Machine.execSrl_l s
  | .srl_mhl => Sys2Proof.Machine.execSrl_mhl s
  | .srl_a => Sys2Proof.Machine.execSrl_a s
  | .bit_0_b => Sys2Proof.Machine.execBit_0_b s
  | .bit_0_c => Sys2Proof.Machine.execBit_0_c s
  | .bit_0_d => Sys2Proof.Machine.execBit_0_d s
  | .bit_0_e => Sys2Proof.Machine.execBit_0_e s
  | .bit_0_h => Sys2Proof.Machine.execBit_0_h s
  | .bit_0_l => Sys2Proof.Machine.execBit_0_l s
  | .bit_0_mhl => Sys2Proof.Machine.execBit_0_mhl s
  | .bit_0_a => Sys2Proof.Machine.execBit_0_a s
  | .bit_1_b => Sys2Proof.Machine.execBit_1_b s
  | .bit_1_c => Sys2Proof.Machine.execBit_1_c s
  | .bit_1_d => Sys2Proof.Machine.execBit_1_d s
  | .bit_1_e => Sys2Proof.Machine.execBit_1_e s
  | .bit_1_h => Sys2Proof.Machine.execBit_1_h s
  | .bit_1_l => Sys2Proof.Machine.execBit_1_l s
  | .bit_1_mhl => Sys2Proof.Machine.execBit_1_mhl s
  | .bit_1_a => Sys2Proof.Machine.execBit_1_a s
  | .bit_2_b => Sys2Proof.Machine.execBit_2_b s
  | .bit_2_c => Sys2Proof.Machine.execBit_2_c s
  | .bit_2_d => Sys2Proof.Machine.execBit_2_d s
  | .bit_2_e => Sys2Proof.Machine.execBit_2_e s
  | .bit_2_h => Sys2Proof.Machine.execBit_2_h s
  | .bit_2_l => Sys2Proof.Machine.execBit_2_l s
  | .bit_2_mhl => Sys2Proof.Machine.execBit_2_mhl s
  | .bit_2_a => Sys2Proof.Machine.execBit_2_a s
  | .bit_3_b => Sys2Proof.Machine.execBit_3_b s
  | .bit_3_c => Sys2Proof.Machine.execBit_3_c s
  | .bit_3_d => Sys2Proof.Machine.execBit_3_d s
  | .bit_3_e => Sys2Proof.Machine.execBit_3_e s
  | .bit_3_h => Sys2Proof.Machine.execBit_3_h s
  | .bit_3_l => Sys2Proof.Machine.execBit_3_l s
  | .bit_3_mhl => Sys2Proof.Machine.execBit_3_mhl s
  | .bit_3_a => Sys2Proof.Machine.execBit_3_a s
  | .bit_4_b => Sys2Proof.Machine.execBit_4_b s
  | .bit_4_c => Sys2Proof.Machine.execBit_4_c s
  | .bit_4_d => Sys2Proof.Machine.execBit_4_d s
  | .bit_4_e => Sys2Proof.Machine.execBit_4_e s
  | .bit_4_h => Sys2Proof.Machine.execBit_4_h s
  | .bit_4_l => Sys2Proof.Machine.execBit_4_l s
  | .bit_4_mhl => Sys2Proof.Machine.execBit_4_mhl s
  | .bit_4_a => Sys2Proof.Machine.execBit_4_a s
  | .bit_5_b => Sys2Proof.Machine.execBit_5_b s
  | .bit_5_c => Sys2Proof.Machine.execBit_5_c s
  | .bit_5_d => Sys2Proof.Machine.execBit_5_d s
  | .bit_5_e => Sys2Proof.Machine.execBit_5_e s
  | .bit_5_h => Sys2Proof.Machine.execBit_5_h s
  | .bit_5_l => Sys2Proof.Machine.execBit_5_l s
  | .bit_5_mhl => Sys2Proof.Machine.execBit_5_mhl s
  | .bit_5_a => Sys2Proof.Machine.execBit_5_a s
  | .bit_6_b => Sys2Proof.Machine.execBit_6_b s
  | .bit_6_c => Sys2Proof.Machine.execBit_6_c s
  | .bit_6_d => Sys2Proof.Machine.execBit_6_d s
  | .bit_6_e => Sys2Proof.Machine.execBit_6_e s
  | .bit_6_h => Sys2Proof.Machine.execBit_6_h s
  | .bit_6_l => Sys2Proof.Machine.execBit_6_l s
  | .bit_6_mhl => Sys2Proof.Machine.execBit_6_mhl s
  | .bit_6_a => Sys2Proof.Machine.execBit_6_a s
  | .bit_7_b => Sys2Proof.Machine.execBit_7_b s
  | .bit_7_c => Sys2Proof.Machine.execBit_7_c s
  | .bit_7_d => Sys2Proof.Machine.execBit_7_d s
  | .bit_7_e => Sys2Proof.Machine.execBit_7_e s
  | .bit_7_h => Sys2Proof.Machine.execBit_7_h s
  | .bit_7_l => Sys2Proof.Machine.execBit_7_l s
  | .bit_7_mhl => Sys2Proof.Machine.execBit_7_mhl s
  | .bit_7_a => Sys2Proof.Machine.execBit_7_a s
  | .res_0_b => Sys2Proof.Machine.execRes_0_b s
  | .res_0_c => Sys2Proof.Machine.execRes_0_c s
  | .res_0_d => Sys2Proof.Machine.execRes_0_d s
  | .res_0_e => Sys2Proof.Machine.execRes_0_e s
  | .res_0_h => Sys2Proof.Machine.execRes_0_h s
  | .res_0_l => Sys2Proof.Machine.execRes_0_l s
  | .res_0_mhl => Sys2Proof.Machine.execRes_0_mhl s
  | .res_0_a => Sys2Proof.Machine.execRes_0_a s
  | .res_1_b => Sys2Proof.Machine.execRes_1_b s
  | .res_1_c => Sys2Proof.Machine.execRes_1_c s
  | .res_1_d => Sys2Proof.Machine.execRes_1_d s
  | .res_1_e => Sys2Proof.Machine.execRes_1_e s
  | .res_1_h => Sys2Proof.Machine.execRes_1_h s
  | .res_1_l => Sys2Proof.Machine.execRes_1_l s
  | .res_1_mhl => Sys2Proof.Machine.execRes_1_mhl s
  | .res_1_a => Sys2Proof.Machine.execRes_1_a s
  | .res_2_b => Sys2Proof.Machine.execRes_2_b s
  | .res_2_c => Sys2Proof.Machine.execRes_2_c s
  | .res_2_d => Sys2Proof.Machine.execRes_2_d s
  | .res_2_e => Sys2Proof.Machine.execRes_2_e s
  | .res_2_h => Sys2Proof.Machine.execRes_2_h s
  | .res_2_l => Sys2Proof.Machine.execRes_2_l s
  | .res_2_mhl => Sys2Proof.Machine.execRes_2_mhl s
  | .res_2_a => Sys2Proof.Machine.execRes_2_a s
  | .res_3_b => Sys2Proof.Machine.execRes_3_b s
  | .res_3_c => Sys2Proof.Machine.execRes_3_c s
  | .res_3_d => Sys2Proof.Machine.execRes_3_d s
  | .res_3_e => Sys2Proof.Machine.execRes_3_e s
  | .res_3_h => Sys2Proof.Machine.execRes_3_h s
  | .res_3_l => Sys2Proof.Machine.execRes_3_l s
  | .res_3_mhl => Sys2Proof.Machine.execRes_3_mhl s
  | .res_3_a => Sys2Proof.Machine.execRes_3_a s
  | .res_4_b => Sys2Proof.Machine.execRes_4_b s
  | .res_4_c => Sys2Proof.Machine.execRes_4_c s
  | .res_4_d => Sys2Proof.Machine.execRes_4_d s
  | .res_4_e => Sys2Proof.Machine.execRes_4_e s
  | .res_4_h => Sys2Proof.Machine.execRes_4_h s
  | .res_4_l => Sys2Proof.Machine.execRes_4_l s
  | .res_4_mhl => Sys2Proof.Machine.execRes_4_mhl s
  | .res_4_a => Sys2Proof.Machine.execRes_4_a s
  | .res_5_b => Sys2Proof.Machine.execRes_5_b s
  | .res_5_c => Sys2Proof.Machine.execRes_5_c s
  | .res_5_d => Sys2Proof.Machine.execRes_5_d s
  | .res_5_e => Sys2Proof.Machine.execRes_5_e s
  | .res_5_h => Sys2Proof.Machine.execRes_5_h s
  | .res_5_l => Sys2Proof.Machine.execRes_5_l s
  | .res_5_mhl => Sys2Proof.Machine.execRes_5_mhl s
  | .res_5_a => Sys2Proof.Machine.execRes_5_a s
  | .res_6_b => Sys2Proof.Machine.execRes_6_b s
  | .res_6_c => Sys2Proof.Machine.execRes_6_c s
  | .res_6_d => Sys2Proof.Machine.execRes_6_d s
  | .res_6_e => Sys2Proof.Machine.execRes_6_e s
  | .res_6_h => Sys2Proof.Machine.execRes_6_h s
  | .res_6_l => Sys2Proof.Machine.execRes_6_l s
  | .res_6_mhl => Sys2Proof.Machine.execRes_6_mhl s
  | .res_6_a => Sys2Proof.Machine.execRes_6_a s
  | .res_7_b => Sys2Proof.Machine.execRes_7_b s
  | .res_7_c => Sys2Proof.Machine.execRes_7_c s
  | .res_7_d => Sys2Proof.Machine.execRes_7_d s
  | .res_7_e => Sys2Proof.Machine.execRes_7_e s
  | .res_7_h => Sys2Proof.Machine.execRes_7_h s
  | .res_7_l => Sys2Proof.Machine.execRes_7_l s
  | .res_7_mhl => Sys2Proof.Machine.execRes_7_mhl s
  | .res_7_a => Sys2Proof.Machine.execRes_7_a s
  | .set_0_b => Sys2Proof.Machine.execSet_0_b s
  | .set_0_c => Sys2Proof.Machine.execSet_0_c s
  | .set_0_d => Sys2Proof.Machine.execSet_0_d s
  | .set_0_e => Sys2Proof.Machine.execSet_0_e s
  | .set_0_h => Sys2Proof.Machine.execSet_0_h s
  | .set_0_l => Sys2Proof.Machine.execSet_0_l s
  | .set_0_mhl => Sys2Proof.Machine.execSet_0_mhl s
  | .set_0_a => Sys2Proof.Machine.execSet_0_a s
  | .set_1_b => Sys2Proof.Machine.execSet_1_b s
  | .set_1_c => Sys2Proof.Machine.execSet_1_c s
  | .set_1_d => Sys2Proof.Machine.execSet_1_d s
  | .set_1_e => Sys2Proof.Machine.execSet_1_e s
  | .set_1_h => Sys2Proof.Machine.execSet_1_h s
  | .set_1_l => Sys2Proof.Machine.execSet_1_l s
  | .set_1_mhl => Sys2Proof.Machine.execSet_1_mhl s
  | .set_1_a => Sys2Proof.Machine.execSet_1_a s
  | .set_2_b => Sys2Proof.Machine.execSet_2_b s
  | .set_2_c => Sys2Proof.Machine.execSet_2_c s
  | .set_2_d => Sys2Proof.Machine.execSet_2_d s
  | .set_2_e => Sys2Proof.Machine.execSet_2_e s
  | .set_2_h => Sys2Proof.Machine.execSet_2_h s
  | .set_2_l => Sys2Proof.Machine.execSet_2_l s
  | .set_2_mhl => Sys2Proof.Machine.execSet_2_mhl s
  | .set_2_a => Sys2Proof.Machine.execSet_2_a s
  | .set_3_b => Sys2Proof.Machine.execSet_3_b s
  | .set_3_c => Sys2Proof.Machine.execSet_3_c s
  | .set_3_d => Sys2Proof.Machine.execSet_3_d s
  | .set_3_e => Sys2Proof.Machine.execSet_3_e s
  | .set_3_h => Sys2Proof.Machine.execSet_3_h s
  | .set_3_l => Sys2Proof.Machine.execSet_3_l s
  | .set_3_mhl => Sys2Proof.Machine.execSet_3_mhl s
  | .set_3_a => Sys2Proof.Machine.execSet_3_a s
  | .set_4_b => Sys2Proof.Machine.execSet_4_b s
  | .set_4_c => Sys2Proof.Machine.execSet_4_c s
  | .set_4_d => Sys2Proof.Machine.execSet_4_d s
  | .set_4_e => Sys2Proof.Machine.execSet_4_e s
  | .set_4_h => Sys2Proof.Machine.execSet_4_h s
  | .set_4_l => Sys2Proof.Machine.execSet_4_l s
  | .set_4_mhl => Sys2Proof.Machine.execSet_4_mhl s
  | .set_4_a => Sys2Proof.Machine.execSet_4_a s
  | .set_5_b => Sys2Proof.Machine.execSet_5_b s
  | .set_5_c => Sys2Proof.Machine.execSet_5_c s
  | .set_5_d => Sys2Proof.Machine.execSet_5_d s
  | .set_5_e => Sys2Proof.Machine.execSet_5_e s
  | .set_5_h => Sys2Proof.Machine.execSet_5_h s
  | .set_5_l => Sys2Proof.Machine.execSet_5_l s
  | .set_5_mhl => Sys2Proof.Machine.execSet_5_mhl s
  | .set_5_a => Sys2Proof.Machine.execSet_5_a s
  | .set_6_b => Sys2Proof.Machine.execSet_6_b s
  | .set_6_c => Sys2Proof.Machine.execSet_6_c s
  | .set_6_d => Sys2Proof.Machine.execSet_6_d s
  | .set_6_e => Sys2Proof.Machine.execSet_6_e s
  | .set_6_h => Sys2Proof.Machine.execSet_6_h s
  | .set_6_l => Sys2Proof.Machine.execSet_6_l s
  | .set_6_mhl => Sys2Proof.Machine.execSet_6_mhl s
  | .set_6_a => Sys2Proof.Machine.execSet_6_a s
  | .set_7_b => Sys2Proof.Machine.execSet_7_b s
  | .set_7_c => Sys2Proof.Machine.execSet_7_c s
  | .set_7_d => Sys2Proof.Machine.execSet_7_d s
  | .set_7_e => Sys2Proof.Machine.execSet_7_e s
  | .set_7_h => Sys2Proof.Machine.execSet_7_h s
  | .set_7_l => Sys2Proof.Machine.execSet_7_l s
  | .set_7_mhl => Sys2Proof.Machine.execSet_7_mhl s
  | .set_7_a => Sys2Proof.Machine.execSet_7_a s

end Sys2Proof.Machine
end

