-- ==== Sys2Proof/Machine/Fetch.lean ====
section
/-! DEFINITION. Fetch and decode of a step (40_step_and_dispatch.md R220 to R232), and the placing of an instruction
where the next step fetches it. -/

namespace Sys2Proof.Machine

/-- What the front of a step comes to: the step has ended, or an instruction is to be executed in a state. -/
inductive Fetched where
  | done (r : Result)
  | run (i : Instr) (s : State)

/-- The next byte or word of the instruction stream: a fetch fault reports the fetch address (R540). -/
def State.fetch (s : State) (a : Word) (w : Width) : Except Fault (Word × State) := s.loadAt a a w

/-- An N8 instruction byte (R230). -/
def State.fetch8 (s : State) (a : Half) : Except Fault (Byte × State) :=
  match s.fetch (a.setWidth 32) .byte with
  | .error f => .error f
  | .ok (v, t) => .ok (v.setWidth 8, t)

/-- A word of an unrecognized class whose condition passed (R226). -/
def unrecognized (w : Word) (s : State) : Result :=
  match s.cfg.decodeMode with
  | .strict => decodeFault s w .unrecognizedClass
  | .permissive => .next ((s.emit (.unrecognizedNoOp (s.getX 15) w)).advance4.retire .unrecognizedNoOp)

/-- The word fetched by an A32 step (R223): the condition gate, the class, the fixed fields (R227). -/
def classifyA32 (w : Word) (s : State) : Fetched :=
  if conditionPassed (condOf w) s.sw then
    match decodeA32 w with
    | none => .done (unrecognized w s)
    | some i =>
      match formatError w with
      | some reason => .done (decodeFault s w reason)
      | none => .run i s
  else .done (.next (condFailed s))

/-- The front of an A32 step (R221, R222). -/
def fetchA32 (s : State) : Fetched :=
  if flagT s.sw then .done (.fault (.invalidMode s.site .thumb))
  else
    match s.fetch (s.getX 15) .word with
    | .error f => .done (.fault f)
    | .ok (w, t) => classifyA32 w t

/-- One operand byte at A + 1 (R202). -/
def fetchOperand (s : State) (k : Byte → Instr) : Fetched :=
  match s.fetch8 (s.pc + 1) with
  | .error f => .done (.fault f)
  | .ok (b, t) => .run (k b) t

/-- Two operand bytes, the low one at A + 1, the high one at A + 2 (R202). -/
def fetchOperand16 (s : State) (k : Half → Instr) : Fetched :=
  match s.fetch8 (s.pc + 1) with
  | .error f => .done (.fault f)
  | .ok (lo, t) =>
    match t.fetch8 (s.pc + 2) with
    | .error f => .done (.fault f)
    | .ok (hi, u) => .run (k (half hi lo)) u

/-- The opcode fetched by an N8 step (R230, R231, R232). -/
def dispatchN8 (op : Byte) (s : State) : Fetched :=
  match n8Entry op with
  | .plain i => .run i s
  | .byte k => fetchOperand s k
  | .half k => fetchOperand16 s k
  | .cbTable => fetchOperand s cbInstr
  | .absent => .done (.fault (.unimplemented s.site op s.pc))

/-- The front of an N8 step (R230). -/
def fetchN8 (s : State) : Fetched :=
  match s.fetch8 s.pc with
  | .error f => .done (.fault f)
  | .ok (op, t) => dispatchN8 op t

/-- The front of a step of the core's profile. -/
def fetchNext (s : State) : Fetched :=
  match s.cfg.profile with
  | .a32 => fetchA32 s
  | .n8 => fetchN8 s

/-- A step while not running (R220): nothing changes, `advance(0)` is called. -/
def haltedStep (s : State) : State := s.emit (.advance 0)

/-! ## Placing an instruction at the program counter -/

/-- The cell of the backing store a bus address maps to, where a buffer is mapped. -/
def cellOf (cfg : Config) (a : Nat) : Option Nat :=
  match route cfg a 1 with
  | none => none
  | some (r, o) =>
    match r.kind with
    | .buffer _ => some (r.base + o)
    | .io _ => none

/-- The addresses of `n` instruction bytes from the program counter, wrapping (R145). -/
def streamAddresses (s : State) (n : Nat) : List Nat :=
  (List.range n).map (fun k => (s.here.toNat + k) % 2 ^ s.cfg.profile.alen)

/-- Store bytes in cells, bypassing read-only flags, as a program is loaded from outside (log 12). -/
def placeIn (m : List Host.Cell) : List (Option Nat) → List Byte → List Host.Cell
  | some c :: cells, b :: bytes => placeIn (Memory.set m c b) cells bytes
  | _, _ => m

/-- Whether `n` instruction bytes at the program counter lie in buffers, in one entry in A32. -/
def streamMapped (s : State) (n : Nat) : Bool :=
  (streamAddresses s n).all (fun a => (cellOf s.cfg a).isSome)
    && (s.cfg.profile == .n8 || (route s.cfg s.here.toNat n).isSome)

/-- The state made ready to fetch in a profile: running, T = 0, and the default setup of the profile (R131, R132) with
the program counter at 0 where the state's own does not let `n` bytes be placed. -/
def readyFor (s : State) (p : Profile) (n : Nat) : State :=
  let t := { s with running := true, sw := setBit s.sw 5 false }
  if t.cfg.profile = p ∧ streamMapped t n then t
  else
    match p with
    | .a32 => { t.setX 15 0 with cfg := Config.a32 }
    | .n8 => { t with cfg := Config.n8, pc := 0 }

/-- The state with bytes stored where the next step of the profile fetches its instruction. -/
def placeBytes (s : State) (p : Profile) (bytes : List Byte) : State :=
  let t := readyFor s p bytes.length
  { t with mem := placeIn t.mem ((streamAddresses t bytes.length).map (cellOf t.cfg)) bytes }

end Sys2Proof.Machine
end

