-- ==== Sys2Proof/Machine/Step.lean ====
section
/-! DEFINITION. The step of the core (40_step_and_dispatch.md R223, R232), and an instruction placed where the next step
fetches it. -/

namespace Sys2Proof.Machine

/-- `step()`: nothing while not running (R220); else fetch and decode, then the instruction's meaning. -/
def step (s : State) : Host.Outcome State Fault Refusal :=
  if s.running then
    match fetchNext s with
    | .done r => r
    | .run i t => exec i t
  else .next (haltedStep s)

/-- The state with an instruction, numbered as spec/opcode_table.json numbers it, where the next step fetches it
(log 10, log 12). -/
def State.withFetchWord (s : State) (nbits w : Nat) : State :=
  placeBytes s (tableBytes nbits w).1 (tableBytes nbits w).2

end Sys2Proof.Machine
end

