-- ==== Sys2Proof/Machine/HostOps.lean ====
section
/-! DEFINITION. The host interface beside `reset`, `step` and `run` (00_scope.md R12): `get` and `set` (R41), `get_flag`
(R74), `map` (R111), `io_bind` (R128) and `load_rom` (R137). A host call is made between steps (R239). -/

namespace Sys2Proof.Machine

/-- The N8 register at an index of the register array (R67). -/
def r8OfIndex (i : Nat) : Option R8 := [R8.a, R8.f, R8.b, R8.c, R8.d, R8.e, R8.h, R8.l][i]?

/-- `get(i)` (R41). -/
def hostGet (s : State) (i : Nat) : Except Fault Word :=
  match s.cfg.profile with
  | .a32 => if i < 16 then .ok (s.getX (BitVec.ofNat 4 i)) else .error (.registerIndex i)
  | .n8 =>
    match r8OfIndex i with
    | some r => .ok ((s.get8 r).setWidth 32)
    | none => .error (.registerIndex i)

/-- `set(i, v)` (R41): `uXLEN(v)`; register 15 of A32 is the program counter, written through `WritePC` (R46). -/
def hostSet (s : State) (i : Nat) (v : Nat) : Except Fault State :=
  match s.cfg.profile with
  | .a32 => if i < 16 then .ok (s.writeReg (BitVec.ofNat 4 i) (BitVec.ofNat 32 v)) else .error (.registerIndex i)
  | .n8 =>
    match r8OfIndex i with
    | some r => .ok (s.set8 r (BitVec.ofNat 8 v))
    | none => .error (.registerIndex i)

/-- The flag names of the two profiles (R74). -/
inductive FlagName where
  | n | z | c | v | h
  deriving DecidableEq, Repr

/-- `get_flag(name)` (R74): refused for a flag the profile lacks. -/
def hostGetFlag (s : State) (name : FlagName) : Except Refusal Bool :=
  match s.cfg.profile, name with
  | .a32, .n => .ok (flagN s.sw)
  | .a32, .z => .ok (flagZ s.sw)
  | .a32, .c => .ok (flagC s.sw)
  | .a32, .v => .ok (flagV s.sw)
  | .a32, .h => .error .noSuchFlag
  | .n8, .n => .ok (fN s.n8.f)
  | .n8, .z => .ok (fZ s.n8.f)
  | .n8, .c => .ok (fC s.n8.f)
  | .n8, .v => .error .noSuchFlag
  | .n8, .h => .ok (fH s.n8.f)

/-- Whether the range from `start` to `last` meets an entry (R111). -/
def overlaps (m : List MapEntry) (start last : Nat) : Bool :=
  m.any (fun e => decide (e.start ≤ last) && decide (start ≤ e.last))

/-- `map(start, size, region, local_base)` (R111). -/
def hostMap (s : State) (start size : Nat) (region : Region) (localBase : Nat) : Except Fault State :=
  if size = 0 ∨ start + size - 1 ≥ 2 ^ s.cfg.profile.alen ∨ localBase + size > region.size
      ∨ overlaps s.cfg.map start (start + size - 1) then
    .error (.configuration (.map start size region localBase))
  else .ok { s with cfg := { s.cfg with map := s.cfg.map ++ [⟨start, start + size - 1, region, localBase⟩] } }

/-- Whether `io_bind` may bind an offset of a region (R128): an I/O block, inside it, not bound in that block before. -/
def bindable (cfg : Config) (r : Region) (offset : Nat) : Bool :=
  match r.kind with
  | .io block => decide (offset < r.size) && !cfg.bindings.contains (block, offset)
  | .buffer _ => false

/-- The bindings with an offset of an I/O block added (R128). -/
def bindOffset (cfg : Config) (r : Region) (offset : Nat) : List (Nat × Nat) :=
  match r.kind with
  | .io block => (block, offset) :: cfg.bindings
  | .buffer _ => cfg.bindings

/-- `io_bind(offset, getter, setter)` (R128) on an I/O block, mapped or not: the binding belongs to the block, so every
entry that names the block sees it. -/
def ioBind (s : State) (region : Region) (offset : Nat) : Except Fault State :=
  if bindable s.cfg region offset then .ok { s with cfg := { s.cfg with bindings := bindOffset s.cfg region offset } }
  else .error (.configuration (.ioBind region offset))

/-- Bytes stored from a cell up. -/
def storeFrom (m : List Host.Cell) (c : Nat) : List Byte → List Host.Cell
  | [] => m
  | b :: rest => storeFrom (Memory.set m c b) (c + 1) rest

/-- `load_rom(image)` (R137) into a region (log 9): from local offset 0, truncated to the region's size, past its
read-only flag, the latch untouched. -/
def loadRom (s : State) (rom : Region) (image : List Byte) : State :=
  { s with mem := storeFrom s.mem rom.base (image.take rom.size) }

end Sys2Proof.Machine
end

