-- ==== Sys2Proof/Safety.lean ====
section
/-! DEFINITION. What holds of the core between steps, and what a run without a fault is: the terms the claims use. -/

namespace Sys2Proof.Machine

/-- The program counter of A32 is aligned to the fetch granularity of the T bit (R45). -/
abbrev PcAligned (s : State) : Prop :=
  if flagT s.sw then (s.getX 15).getLsbD 0 = false
  else (s.getX 15).getLsbD 0 = false ∧ (s.getX 15).getLsbD 1 = false

/-- Two entries share no bus address (R112). -/
abbrev EntriesDisjoint (e f : MapEntry) : Prop := e.last < f.start ∨ f.last < e.start

/-- A mapping table as `map` builds it (R111, R112): every entry has a byte, lies in the address space and in its
region, and no two overlap. -/
abbrev MapOk (cfg : Config) : Prop :=
  (∀ e ∈ cfg.map, e.start ≤ e.last ∧ e.last < 2 ^ cfg.profile.alen ∧
    e.localBase + (e.last + 1 - e.start) ≤ e.region.size) ∧
  cfg.map.Pairwise EntriesDisjoint

/-- The invariant every step keeps: memory in canonical form (log 4), and the program counter aligned (R45). -/
abbrev Inv (s : State) : Prop := Memory.wf s.mem = true ∧ PcAligned s

/-- A run of `n` steps, each of which completes. -/
def RunsTo : Nat → State → State → Prop
  | 0, s, t => s = t
  | n + 1, s, t => ∃ u, step s = .next u ∧ RunsTo n u t

/-- A run that stops nowhere in `n` steps. -/
def SafeFor (n : Nat) (s : State) : Prop := ∃ t, RunsTo n s t

end Sys2Proof.Machine
end

