-- ==== Sys2Proof/Machine/Run.lean ====
section
/-! DEFINITION. The run loop (40_step_and_dispatch.md R240), what a fault leaves (R234, R235), the fault record (R540,
R541), and the order of R544 as the step's own. -/

namespace Sys2Proof.Machine

/-- The numeric code of a fault (R541). -/
def Fault.code : Fault → Nat
  | .configuration _ => 1
  | .bus _ _ _ _ => 2
  | .unimplemented _ _ _ => 3
  | .decode _ _ _ _ => 4
  | .invalidMode _ _ => 5
  | .registerIndex _ => 6

/-- What a fault of a step leaves behind, where it is a fault a step raises. -/
def Fault.site : Fault → Option Site
  | .configuration _ => none
  | .bus site _ _ _ => some site
  | .unimplemented site _ _ => some site
  | .decode site _ _ _ => some site
  | .invalidMode site _ => some site
  | .registerIndex _ => none

/-- The state of the core after a fault (R234.4, R540, R545): the state before the step, but for the open-bus latch and the
draws already made. -/
def afterFault (s : State) (f : Fault) : State :=
  match f.site with
  | none => s
  | some site => { s with openBus := site.openBus, draws := site.draws }

/-- The program counter of the profile (R240). -/
def State.programCounter (s : State) : Word := s.here

/-- How `run` ends (R240), with the completed steps counted; `outOfFuel` is the model's own, for a run without a bound
that has not ended in the steps given (log 13). -/
inductive RunEnd where
  | halted (k : Nat)
  | boundReached (k : Nat)
  | selfLoop (k : Nat) (addr : Word)
  | fault (k : Nat) (f : Fault)
  | refused (k : Nat) (r : Refusal)
  | outOfFuel (k : Nat)
  deriving DecidableEq, Repr

/-- `run` from `k` completed steps (R240): `fuel` limits the recursion; the state is the one the run leaves. -/
def runFrom : (fuel : Nat) → (bound : Option Nat) → (k : Nat) → State → RunEnd × State
  | 0, _, k, s => (.outOfFuel k, s)
  | fuel + 1, bound, k, s =>
    if !s.running then (.halted k, s)
    else if bound = some k then (.boundReached k, s)
    else
      match step s with
      | .fault f => (.fault k f, afterFault s f)
      | .refused r => (.refused k r, s)
      | .next t =>
        if t.running && t.programCounter == s.programCounter then (.selfLoop (k + 1) s.programCounter, t)
        else runFrom fuel bound (k + 1) t

/-- `run(bound)` with a bound (R240): at most `bound` steps, so `bound + 1` rounds always end it. -/
def runBound (bound : Nat) (s : State) : RunEnd × State := runFrom (bound + 1) (some bound) 0 s

/-- `run()` without a bound (R240), for as many rounds as `fuel`. -/
def runFree (fuel : Nat) (s : State) : RunEnd × State := runFrom fuel none 0 s

/-- The count a step returns (R243): the argument of its one `advance` call, its newest event. -/
def State.lastCycles (s : State) : Option Nat :=
  match s.events with
  | .advance n :: _ => some n
  | _ => none

end Sys2Proof.Machine
end

