-- ==== Sys2Proof/Safety/Forms.lean ====
section
/-! DEFINITION. The words the statements use: what it is for an instruction to end in a given next state, and the lists of
the instructions of one shape, each with the operands its encoding names (30_encoding.md R200, R201). -/

namespace Sys2Proof

/-! ## Field codes of N8 -/

/-- The field code of a register (R200); F has none. -/
def R8.code : R8 → Byte
  | .b => 0 | .c => 1 | .d => 2 | .e => 3 | .h => 4 | .l => 5 | .a => 7 | .f => 6

/-- The field code of a 16-bit register (R201). -/
def R16.code : R16 → Byte
  | .bc => 0 | .de => 1 | .hl => 2 | .sp => 3

/-- The field code of a pair in PUSH and POP, and in the 16-bit instructions for BC, DE and HL (R201). -/
def Pair.code : Pair → Byte
  | .bc => 0 | .de => 1 | .hl => 2 | .af => 3

/-- The field code of a condition (R201). -/
def CC.code : CC → Byte
  | .nz => 0 | .z => 1 | .nc => 2 | .c => 3

/-- The field code of an ALU operation (R201). -/
def AluOp.code : AluOp → Byte
  | .add => 0 | .adc => 1 | .sub => 2 | .sbc => 3 | .and => 4 | .xor => 5 | .or => 6 | .cp => 7

/-- The field code of a rotate or shift (R201). -/
def RotOp.code : RotOp → Byte
  | .rlc => 0 | .rrc => 1 | .rl => 2 | .rr => 3 | .sla => 4 | .sra => 5 | .swap => 6 | .srl => 7
end Sys2Proof

namespace Sys2Proof.Machine

/-! ## A32 -/

/-- A program-counter value masked by the T bit (R46). -/
def maskPc (t : Bool) (v : Word) : Word := if t then v &&& 0xFFFFFFFE else v &&& 0xFFFFFFFC

/-- What register `r` holds after `WriteReg` of each pair in order, a later one replacing an earlier (R237), if it held
`old`. -/
def regAfter (t : Bool) (writes : List (Reg × Word)) (r : Reg) (old : Word) : Word :=
  writes.foldl (fun v p => if r = p.1 then (if p.1 = 15 then maskPc t p.2 else p.2) else v) old

/-- `t` is the end of an A32 instruction that began in `s`, whose accesses left `u`, that wrote the registers `writes`, and left
the status word `sw`: every register but those is as before, R15 past the instruction (R48); everything else is as the
accesses left it, and `advance` was called once. -/
structure A32Ends (s u t : State) (writes : List (Reg × Word)) (sw : Word) (cycles : Nat) : Prop where
  regs : ∀ r : Reg, t.getX r = regAfter (flagT sw) writes r (if r = 15 then s.getX 15 + 4 else s.getX r)
  status : t.sw = sw
  memory : t.mem = u.mem
  latch : t.openBus = u.openBus
  draws : t.draws = u.draws
  events : t.events = .advance cycles :: u.events
  n8 : t.n8 = s.n8
  sp : t.sp = s.sp
  pc : t.pc = s.pc
  running : t.running = s.running
  setup : t.cfg = s.cfg

/-- The instruction answers a next state, and it is that end. -/
def A32Completes (i : Instr) (s u : State) (writes : List (Reg × Word)) (sw : Word) (row : CostRow) : Prop :=
  ∃ t, exec i s = .next t ∧ A32Ends s u t writes sw (s.cfg.cost row)

/-- A single load: the instruction, its condition, the kind of datum, Rd, Rn, whether the base is written back, the
address and the new base. -/
structure LoadForm where
  instr : Instr
  cond : Cond
  kind : LoadKind
  rd : Reg
  rn : Reg
  writeback : Bool
  addr : State → Word
  newBase : State → Word

/-- A single store. -/
structure StoreForm where
  instr : Instr
  cond : Cond
  kind : StoreKind
  rd : Reg
  rn : Reg
  writeback : Bool
  addr : State → Word
  newBase : State → Word

/-- `base + off` or `base − off` with `base = ReadReg(Rn)` (R360). -/
def indexed (up : Bool) (rn : Reg) (off : State → Word) (s : State) : Word :=
  if up then s.readReg rn + off s else s.readReg rn - off s

/-- `base` (R360). -/
def unindexed (rn : Reg) (s : State) : Word := s.readReg rn

/-- The immediate offset of a single transfer (R183). -/
def imm12Off (imm12 : BitVec 12) (_ : State) : Word := imm12.setWidth 32

/-- The scaled register offset of a single transfer (R361). -/
def scaledOff (op : ShiftImm) (s : State) : Word := (shiftByImm op.kind (s.readReg op.rm) op.amount.toNat (flagC s.sw)).value

/-- The immediate offset of a half-word transfer (R183). -/
def imm8Off (imm8 : Byte) (_ : State) : Word := imm8.setWidth 32

/-- The register offset of a half-word transfer (R369). -/
def regOff (rm : Reg) (s : State) : Word := s.readReg rm

/-- The address of a half-word transfer (R369). -/
def halfIndexed (pre up : Bool) (rn : Reg) (off : State → Word) (s : State) : Word :=
  if pre then indexed up rn off s else unindexed rn s

/-- The forms of LDR and LDRT (R364, R368). -/
def ldrForms (c : Cond) (up wb : Bool) (rn rd : Reg) (imm12 : BitVec 12) (op : ShiftImm) : List LoadForm :=
  [ ⟨.ldrImmPre c up wb rn rd imm12, c, .word, rd, rn, wb, indexed up rn (imm12Off imm12), indexed up rn (imm12Off imm12)⟩,
    ⟨.ldrImmPost c up rn rd imm12, c, .word, rd, rn, true, unindexed rn, indexed up rn (imm12Off imm12)⟩,
    ⟨.ldrRegPre c up wb rn rd op, c, .word, rd, rn, wb, indexed up rn (scaledOff op), indexed up rn (scaledOff op)⟩,
    ⟨.ldrRegPost c up rn rd op, c, .word, rd, rn, true, unindexed rn, indexed up rn (scaledOff op)⟩,
    ⟨.ldrtImm c up rn rd imm12, c, .word, rd, rn, true, unindexed rn, indexed up rn (imm12Off imm12)⟩,
    ⟨.ldrtReg c up rn rd op, c, .word, rd, rn, true, unindexed rn, indexed up rn (scaledOff op)⟩ ]

/-- The forms of LDRB and LDRBT (R365, R368). -/
def ldrbForms (c : Cond) (up wb : Bool) (rn rd : Reg) (imm12 : BitVec 12) (op : ShiftImm) : List LoadForm :=
  [ ⟨.ldrbImmPre c up wb rn rd imm12, c, .byte, rd, rn, wb, indexed up rn (imm12Off imm12), indexed up rn (imm12Off imm12)⟩,
    ⟨.ldrbImmPost c up rn rd imm12, c, .byte, rd, rn, true, unindexed rn, indexed up rn (imm12Off imm12)⟩,
    ⟨.ldrbRegPre c up wb rn rd op, c, .byte, rd, rn, wb, indexed up rn (scaledOff op), indexed up rn (scaledOff op)⟩,
    ⟨.ldrbRegPost c up rn rd op, c, .byte, rd, rn, true, unindexed rn, indexed up rn (scaledOff op)⟩,
    ⟨.ldrbtImm c up rn rd imm12, c, .byte, rd, rn, true, unindexed rn, indexed up rn (imm12Off imm12)⟩,
    ⟨.ldrbtReg c up rn rd op, c, .byte, rd, rn, true, unindexed rn, indexed up rn (scaledOff op)⟩ ]

/-- The forms of STR and STRT (R366, R368). -/
def strForms (c : Cond) (up wb : Bool) (rn rd : Reg) (imm12 : BitVec 12) (op : ShiftImm) : List StoreForm :=
  [ ⟨.strImmPre c up wb rn rd imm12, c, .word, rd, rn, wb, indexed up rn (imm12Off imm12), indexed up rn (imm12Off imm12)⟩,
    ⟨.strImmPost c up rn rd imm12, c, .word, rd, rn, true, unindexed rn, indexed up rn (imm12Off imm12)⟩,
    ⟨.strRegPre c up wb rn rd op, c, .word, rd, rn, wb, indexed up rn (scaledOff op), indexed up rn (scaledOff op)⟩,
    ⟨.strRegPost c up rn rd op, c, .word, rd, rn, true, unindexed rn, indexed up rn (scaledOff op)⟩,
    ⟨.strtImm c up rn rd imm12, c, .word, rd, rn, true, unindexed rn, indexed up rn (imm12Off imm12)⟩,
    ⟨.strtReg c up rn rd op, c, .word, rd, rn, true, unindexed rn, indexed up rn (scaledOff op)⟩ ]

/-- The forms of STRB and STRBT (R367, R368). -/
def strbForms (c : Cond) (up wb : Bool) (rn rd : Reg) (imm12 : BitVec 12) (op : ShiftImm) : List StoreForm :=
  [ ⟨.strbImmPre c up wb rn rd imm12, c, .byte, rd, rn, wb, indexed up rn (imm12Off imm12), indexed up rn (imm12Off imm12)⟩,
    ⟨.strbImmPost c up rn rd imm12, c, .byte, rd, rn, true, unindexed rn, indexed up rn (imm12Off imm12)⟩,
    ⟨.strbRegPre c up wb rn rd op, c, .byte, rd, rn, wb, indexed up rn (scaledOff op), indexed up rn (scaledOff op)⟩,
    ⟨.strbRegPost c up rn rd op, c, .byte, rd, rn, true, unindexed rn, indexed up rn (scaledOff op)⟩,
    ⟨.strbtImm c up rn rd imm12, c, .byte, rd, rn, true, unindexed rn, indexed up rn (imm12Off imm12)⟩,
    ⟨.strbtReg c up rn rd op, c, .byte, rd, rn, true, unindexed rn, indexed up rn (scaledOff op)⟩ ]

/-- The forms of LDRH, LDRSB and LDRSH (R370, R374, R375). -/
def ldrhForms (c : Cond) (pre up wb : Bool) (rn rd : Reg) (imm8 : Byte) (rm : Reg) : List LoadForm :=
  [ ⟨.ldrhImm c pre up wb rn rd imm8, c, .half, rd, rn, wb || !pre, halfIndexed pre up rn (imm8Off imm8), indexed up rn (imm8Off imm8)⟩,
    ⟨.ldrhReg c pre up wb rn rd rm, c, .half, rd, rn, wb || !pre, halfIndexed pre up rn (regOff rm), indexed up rn (regOff rm)⟩,
    ⟨.ldrsbImm c pre up wb rn rd imm8, c, .signedByte, rd, rn, wb || !pre, halfIndexed pre up rn (imm8Off imm8), indexed up rn (imm8Off imm8)⟩,
    ⟨.ldrsbReg c pre up wb rn rd rm, c, .signedByte, rd, rn, wb || !pre, halfIndexed pre up rn (regOff rm), indexed up rn (regOff rm)⟩,
    ⟨.ldrshImm c pre up wb rn rd imm8, c, .signedHalf, rd, rn, wb || !pre, halfIndexed pre up rn (imm8Off imm8), indexed up rn (imm8Off imm8)⟩,
    ⟨.ldrshReg c pre up wb rn rd rm, c, .signedHalf, rd, rn, wb || !pre, halfIndexed pre up rn (regOff rm), indexed up rn (regOff rm)⟩ ]

/-- The forms of STRH (R373). -/
def strhForms (c : Cond) (pre up wb : Bool) (rn rd : Reg) (imm8 : Byte) (rm : Reg) : List StoreForm :=
  [ ⟨.strhImm c pre up wb rn rd imm8, c, .half, rd, rn, wb || !pre, halfIndexed pre up rn (imm8Off imm8), indexed up rn (imm8Off imm8)⟩,
    ⟨.strhReg c pre up wb rn rd rm, c, .half, rd, rn, wb || !pre, halfIndexed pre up rn (regOff rm), indexed up rn (regOff rm)⟩ ]

/-- The address and width a load presents to the Bus. -/
def LoadForm.place (f : LoadForm) (s : State) : Word × Width := f.kind.access (f.addr s)

/-- The address and width a store presents to the Bus. -/
def StoreForm.place (f : StoreForm) (s : State) : Word × Width := f.kind.access (f.addr s)

/-- A load completes where its access is routed: the latch and the draws as the read leaves them, the base written back
if at all before Rd takes the datum, no flag changed (R360, R364, R369). -/
def LoadForm.Completes (f : LoadForm) : Prop :=
  ∀ (s : State) (r : Region) (o : Nat), conditionPassed f.cond s.sw = true → wellFormed f.instr = true →
    route s.cfg (f.place s).1.toNat (f.place s).2.bytes = some (r, o) →
    A32Completes f.instr s (s.afterRead r o (f.place s).2)
      ((if f.writeback then [(f.rn, f.newBase s)] else [])
        ++ [(f.rd, f.kind.finish (f.addr s) (s.readValue r o (f.place s).2))])
      s.sw (.load (f.rd == 15))

/-- A store completes where its access is routed: Rd's low bytes written at the place, the base written back, no flag
changed (R360, R362, R366). -/
def StoreForm.Completes (f : StoreForm) : Prop :=
  ∀ (s : State) (r : Region) (o : Nat), conditionPassed f.cond s.sw = true → wellFormed f.instr = true →
    route s.cfg (f.place s).1.toNat (f.place s).2.bytes = some (r, o) →
    A32Completes f.instr s (s.writeBytes r o (bytesOf (f.place s).2.bytes (s.storeValue f.rd)))
      (if f.writeback then [(f.rn, f.newBase s)] else []) s.sw .store

/-- A load whose access is not routed faults, reporting the address presented to the Bus (R364, R542). -/
def LoadForm.Faults (f : LoadForm) : Prop :=
  ∀ s : State, conditionPassed f.cond s.sw = true → wellFormed f.instr = true →
    route s.cfg (f.place s).1.toNat (f.place s).2.bytes = none →
    exec f.instr s = .fault (.bus s.site (f.place s).1 (f.place s).2 .read)

/-- A store whose access is not routed faults (R366, R542). -/
def StoreForm.Faults (f : StoreForm) : Prop :=
  ∀ s : State, conditionPassed f.cond s.sw = true → wellFormed f.instr = true →
    route s.cfg (f.place s).1.toNat (f.place s).2.bytes = none →
    exec f.instr s = .fault (.bus s.site (f.place s).1 (f.place s).2 .write)

/-- LDM of a mode (R382). -/
def ldmOf (mode : BlockMode) (c : Cond) (wb : Bool) (rn : Reg) (list : BitVec 16) : Instr :=
  match mode with
  | .da => .ldmda c wb rn list
  | .ia => .ldmia c wb rn list
  | .db => .ldmdb c wb rn list
  | .ib => .ldmib c wb rn list

/-- STM of a mode (R383). -/
def stmOf (mode : BlockMode) (c : Cond) (wb : Bool) (rn : Reg) (list : BitVec 16) : Instr :=
  match mode with
  | .da => .stmda c wb rn list
  | .ia => .stmia c wb rn list
  | .db => .stmdb c wb rn list
  | .ib => .stmib c wb rn list

/-- The `j`-th address of a block transfer (R381). -/
def blockAddr (start : Word) (j : Nat) : Word := start + BitVec.ofNat 32 (4 * j)

/-- Every word of a block transfer of `n` registers is routed. -/
def BlockRouted (s : State) (start : Word) (n : Nat) : Prop :=
  ∀ j, j < n → (route s.cfg (blockAddr start j).toNat 4).isSome

/-- How many draws the first `j` reads of a block transfer make (R129). -/
def blockDraws (s : State) (start : Word) : Nat → Nat
  | 0 => 0
  | j + 1 =>
    blockDraws s start j +
      match route s.cfg (blockAddr start j).toNat 4 with
      | none => 0
      | some (r, _) => drawsOf r 4

/-- The value of the `j`-th read of a block transfer (R103, R129): reads change no byte, so each is the word stored, or
the draws that follow those of the reads before it. -/
def blockValue (s : State) (start : Word) (j : Nat) : Word :=
  match route s.cfg (blockAddr start j).toNat 4 with
  | none => 0
  | some (r, o) => littleEndian (regionBytes s.mem r (s.draws + blockDraws s start j) o 4)

/-- What LDM writes to the registers of its list, in ascending order (R382). -/
def blockLoads (s : State) (start : Word) (list : BitVec 16) : List (Reg × Word) :=
  (registersOf list).mapIdx (fun j r => (r, blockValue s start j))

/-- The state after the writes of STM, in ascending order (R383), from the `j`-th on. -/
def blockStores (s : State) (start : Word) (j : Nat) : List Word → State
  | [] => s
  | v :: rest =>
    match route s.cfg (blockAddr start j).toNat 4 with
    | none => s
    | some (r, o) => blockStores (s.writeBytes r o (bytesOf 4 v)) start (j + 1) rest

/-- What an LDM whose `j`-th read faults leaves behind (R234.4): the latch and the draws of the reads before it. -/
def blockSite (s : State) (start : Word) (j : Nat) : Site :=
  { s.site with
    openBus := if j = 0 then s.openBus else blockValue s start (j - 1)
    draws := s.draws + blockDraws s start j }

/-- Every bus address whose byte is not one of the cells reads the same before and after (the frame of a store). -/
def OnlyCells (s t : State) (cells : List Nat) : Prop :=
  ∀ a : Nat, (∀ c, cellOf s.cfg a = some c → c ∉ cells) → t.byteAt a = s.byteAt a

/-! ## Runs -/

/-- `n` completed steps none of which ends a run (R240): the core is running before each, and after none of them is it running
with the program counter where it was. -/
def RunsOn : Nat → State → State → Prop
  | 0, s, t => s = t
  | n + 1, s, t => ∃ u, s.running = true ∧ step s = .next u ∧
      ¬(u.running = true ∧ u.programCounter = s.programCounter) ∧ RunsOn n u t

/-- `run` from `s` ends as `e` and leaves `t` (R240): what each answer says of the steps made. Whether a bound was reached is
not said here. -/
def RunEnds (s : State) (e : RunEnd) (t : State) : Prop :=
  match e with
  | .halted k => RunsOn k s t ∧ t.running = false
  | .boundReached k => RunsOn k s t ∧ t.running = true
  | .selfLoop k a => ∃ n u, k = n + 1 ∧ RunsOn n s u ∧ u.running = true ∧ step u = .next t ∧
      u.programCounter = a ∧ t.programCounter = a ∧ t.running = true
  | .fault k f => ∃ u, RunsOn k s u ∧ u.running = true ∧ step u = .fault f ∧ t = afterFault u f
  | .refused _ _ => False
  | .outOfFuel k => RunsOn k s t

/-! ## N8 -/

/-- The end of an N8 instruction whose accesses left `u`: the register array, SP and PC as given, everything else as the
accesses left it, and `advance` called once. -/
def n8Ends (u : State) (n8 : N8File) (sp pc : Half) (cycles : Nat) : State :=
  { u with n8 := n8, sp := sp, pc := pc, events := .advance cycles :: u.events }

/-- The byte at a 16-bit address is routed to a local offset of a region (R113). -/
def Routes8 (s : State) (a : Half) (r : Region) (o : Nat) : Prop := route s.cfg a.toNat 1 = some (r, o)

/-- The byte a read at a routed place returns (R103, R129). -/
def byteRead (s : State) (r : Region) (o : Nat) : Byte := regionByte s.mem r s.draws o

/-- Bytes read one after another from an address up, as an N8 step fetches them (R230). -/
def readStream (s : State) (a : Half) : Nat → Except Fault (List Byte × State)
  | 0 => .ok ([], s)
  | n + 1 =>
    match s.fetch8 a with
    | .error f => .error f
    | .ok (b, t) =>
      match readStream t (a + 1) n with
      | .error f => .error f
      | .ok (bs, u) => .ok (b :: bs, u)

/-- LD r, r' with r and r' (R401). -/
def ldRegRegForms : List (Instr × R8 × R8) :=
  List.flatten [
    [(.ld_b_b, .b, .b), (.ld_b_c, .b, .c), (.ld_b_d, .b, .d), (.ld_b_e, .b, .e), (.ld_b_h, .b, .h), (.ld_b_l, .b, .l), (.ld_b_a, .b, .a), (.ld_c_b, .c, .b)],
    [(.ld_c_c, .c, .c), (.ld_c_d, .c, .d), (.ld_c_e, .c, .e), (.ld_c_h, .c, .h), (.ld_c_l, .c, .l), (.ld_c_a, .c, .a), (.ld_d_b, .d, .b), (.ld_d_c, .d, .c)],
    [(.ld_d_d, .d, .d), (.ld_d_e, .d, .e), (.ld_d_h, .d, .h), (.ld_d_l, .d, .l), (.ld_d_a, .d, .a), (.ld_e_b, .e, .b), (.ld_e_c, .e, .c), (.ld_e_d, .e, .d)],
    [(.ld_e_e, .e, .e), (.ld_e_h, .e, .h), (.ld_e_l, .e, .l), (.ld_e_a, .e, .a), (.ld_h_b, .h, .b), (.ld_h_c, .h, .c), (.ld_h_d, .h, .d), (.ld_h_e, .h, .e)],
    [(.ld_h_h, .h, .h), (.ld_h_l, .h, .l), (.ld_h_a, .h, .a), (.ld_l_b, .l, .b), (.ld_l_c, .l, .c), (.ld_l_d, .l, .d), (.ld_l_e, .l, .e), (.ld_l_h, .l, .h)],
    [(.ld_l_l, .l, .l), (.ld_l_a, .l, .a), (.ld_a_b, .a, .b), (.ld_a_c, .a, .c), (.ld_a_d, .a, .d), (.ld_a_e, .a, .e), (.ld_a_h, .a, .h), (.ld_a_l, .a, .l)],
    [(.ld_a_a, .a, .a)]]

/-- LD r, (HL) with r (R402). -/
def ldRegHlForms : List (Instr × R8) :=
  [(.ld_b_mhl, .b), (.ld_c_mhl, .c), (.ld_d_mhl, .d), (.ld_e_mhl, .e), (.ld_h_mhl, .h), (.ld_l_mhl, .l), (.ld_a_mhl, .a)]

/-- LD (HL), r with r (R403). -/
def ldHlRegForms : List (Instr × R8) :=
  [(.ld_mhl_b, .b), (.ld_mhl_c, .c), (.ld_mhl_d, .d), (.ld_mhl_e, .e), (.ld_mhl_h, .h), (.ld_mhl_l, .l), (.ld_mhl_a, .a)]

/-- LD r, d8 with r (R404). -/
def ldRegByteForms : List ((Byte → Instr) × R8) :=
  [(.ld_b_d8, .b), (.ld_c_d8, .c), (.ld_d_d8, .d), (.ld_e_d8, .e), (.ld_h_d8, .h), (.ld_l_d8, .l), (.ld_a_d8, .a)]

/-- The loads of A from memory with their address, length and cost (R406, R407, R410, R412, R414). -/
def loadAForms (a8 : Byte) (a16 : Half) : List (Instr × (State → Half) × Nat × CostRow) :=
  [(.ld_a_mbc, fun s => s.getPair .bc, 1, .ldAInd), (.ld_a_mde, fun s => s.getPair .de, 1, .ldAInd),
   (.ld_a_ma16 a16, fun _ => a16, 3, .ldAAbs), (.ldh_a_ma8 a8, fun _ => half 0xFF a8, 2, .ldh),
   (.ld_a_mc, fun s => half 0xFF s.n8.c, 1, .ldAC)]

/-- The stores of A to memory with their address, length and cost (R408, R409, R411, R413, R415). -/
def storeAForms (a8 : Byte) (a16 : Half) : List (Instr × (State → Half) × Nat × CostRow) :=
  [(.ld_mbc_a, fun s => s.getPair .bc, 1, .ldAInd), (.ld_mde_a, fun s => s.getPair .de, 1, .ldAInd),
   (.ld_ma16_a a16, fun _ => a16, 3, .ldAAbs), (.ldh_ma8_a a8, fun _ => half 0xFF a8, 2, .ldh),
   (.ld_mc_a, fun s => half 0xFF s.n8.c, 1, .ldAC)]

/-- The register array with a pair replaced (R68). -/
def N8File.setPair (n : N8File) (p : Pair) (v : Half) : N8File :=
  match p with
  | .bc => { n with b := hiByte v, c := loByte v }
  | .de => { n with d := hiByte v, e := loByte v }
  | .hl => { n with h := hiByte v, l := loByte v }
  | .af => { n with a := hiByte v, f := loByte v }

/-- The register array with F's named flags replaced (R73). -/
def N8File.flags (n : N8File) (u : FlagsN8) : N8File := { n with f := setFlagsN8 n.f u }

/-- LD rr, d16 with the pair (R420); LD SP, d16 stands apart. -/
def ldReg16Forms : List ((Half → Instr) × Pair) :=
  [(.ld_bc_d16, .bc), (.ld_de_d16, .de), (.ld_hl_d16, .hl)]

/-- PUSH qq with the pair (R425). -/
def pushForms : List (Instr × Pair) :=
  [(.push_bc, .bc), (.push_de, .de), (.push_hl, .hl), (.push_af, .af)]

/-- POP qq with the pair (R426). -/
def popForms : List (Instr × Pair) :=
  [(.pop_bc, .bc), (.pop_de, .de), (.pop_hl, .hl), (.pop_af, .af)]

/-- The ALU instructions with a register source (R440). -/
def aluRegForms : List (Instr × AluOp × R8) :=
  List.flatten [
    [(.add_a_b, .add, .b), (.add_a_c, .add, .c), (.add_a_d, .add, .d), (.add_a_e, .add, .e), (.add_a_h, .add, .h), (.add_a_l, .add, .l), (.add_a_a, .add, .a), (.adc_a_b, .adc, .b)],
    [(.adc_a_c, .adc, .c), (.adc_a_d, .adc, .d), (.adc_a_e, .adc, .e), (.adc_a_h, .adc, .h), (.adc_a_l, .adc, .l), (.adc_a_a, .adc, .a), (.sub_b, .sub, .b), (.sub_c, .sub, .c)],
    [(.sub_d, .sub, .d), (.sub_e, .sub, .e), (.sub_h, .sub, .h), (.sub_l, .sub, .l), (.sub_a, .sub, .a), (.sbc_a_b, .sbc, .b), (.sbc_a_c, .sbc, .c), (.sbc_a_d, .sbc, .d)],
    [(.sbc_a_e, .sbc, .e), (.sbc_a_h, .sbc, .h), (.sbc_a_l, .sbc, .l), (.sbc_a_a, .sbc, .a), (.and_b, .and, .b), (.and_c, .and, .c), (.and_d, .and, .d), (.and_e, .and, .e)],
    [(.and_h, .and, .h), (.and_l, .and, .l), (.and_a, .and, .a), (.xor_b, .xor, .b), (.xor_c, .xor, .c), (.xor_d, .xor, .d), (.xor_e, .xor, .e), (.xor_h, .xor, .h)],
    [(.xor_l, .xor, .l), (.xor_a, .xor, .a), (.or_b, .or, .b), (.or_c, .or, .c), (.or_d, .or, .d), (.or_e, .or, .e), (.or_h, .or, .h), (.or_l, .or, .l)],
    [(.or_a, .or, .a), (.cp_b, .cp, .b), (.cp_c, .cp, .c), (.cp_d, .cp, .d), (.cp_e, .cp, .e), (.cp_h, .cp, .h), (.cp_l, .cp, .l), (.cp_a, .cp, .a)]]

/-- The ALU instructions with source (HL) (R440). -/
def aluHlForms : List (Instr × AluOp) :=
  [(.add_a_mhl, .add), (.adc_a_mhl, .adc), (.sub_mhl, .sub), (.sbc_a_mhl, .sbc), (.and_mhl, .and), (.xor_mhl, .xor), (.or_mhl, .or), (.cp_mhl, .cp)]

/-- The ALU instructions with source d8 (R440). -/
def aluByteForms : List ((Byte → Instr) × AluOp) :=
  [(.add_a_d8, .add), (.adc_a_d8, .adc), (.sub_d8, .sub), (.sbc_a_d8, .sbc), (.and_d8, .and), (.xor_d8, .xor), (.or_d8, .or), (.cp_d8, .cp)]

/-- INC r with r (R449). -/
def incForms : List (Instr × R8) :=
  [(.inc_b, .b), (.inc_c, .c), (.inc_d, .d), (.inc_e, .e), (.inc_h, .h), (.inc_l, .l), (.inc_a, .a)]

/-- DEC r with r (R451). -/
def decForms : List (Instr × R8) :=
  [(.dec_b, .b), (.dec_c, .c), (.dec_d, .d), (.dec_e, .e), (.dec_h, .h), (.dec_l, .l), (.dec_a, .a)]

/-- INC rr with the pair (R453); INC SP stands apart. -/
def inc16Forms : List (Instr × Pair) :=
  [(.inc_bc, .bc), (.inc_de, .de), (.inc_hl, .hl)]

/-- DEC rr with the pair (R454); DEC SP stands apart. -/
def dec16Forms : List (Instr × Pair) :=
  [(.dec_bc, .bc), (.dec_de, .de), (.dec_hl, .hl)]

/-- ADD HL, rr with rr (R455). -/
def addHlForms : List (Instr × R16) :=
  [(.add_hl_bc, .bc), (.add_hl_de, .de), (.add_hl_hl, .hl), (.add_hl_sp, .sp)]

/-- The accumulator rotates with their operation (R462 to R465). -/
def rotAForms : List (Instr × RotOp) :=
  [(.rlca, .rlc), (.rrca, .rrc), (.rla, .rl), (.rra, .rr)]

/-- CB rotates, shifts and SWAP of a register (R491 to R498). -/
def cbRotForms : List (Instr × RotOp × R8) :=
  List.flatten [
    [(.rlc_b, .rlc, .b), (.rlc_c, .rlc, .c), (.rlc_d, .rlc, .d), (.rlc_e, .rlc, .e), (.rlc_h, .rlc, .h), (.rlc_l, .rlc, .l), (.rlc_a, .rlc, .a), (.rrc_b, .rrc, .b)],
    [(.rrc_c, .rrc, .c), (.rrc_d, .rrc, .d), (.rrc_e, .rrc, .e), (.rrc_h, .rrc, .h), (.rrc_l, .rrc, .l), (.rrc_a, .rrc, .a), (.rl_b, .rl, .b), (.rl_c, .rl, .c)],
    [(.rl_d, .rl, .d), (.rl_e, .rl, .e), (.rl_h, .rl, .h), (.rl_l, .rl, .l), (.rl_a, .rl, .a), (.rr_b, .rr, .b), (.rr_c, .rr, .c), (.rr_d, .rr, .d)],
    [(.rr_e, .rr, .e), (.rr_h, .rr, .h), (.rr_l, .rr, .l), (.rr_a, .rr, .a), (.sla_b, .sla, .b), (.sla_c, .sla, .c), (.sla_d, .sla, .d), (.sla_e, .sla, .e)],
    [(.sla_h, .sla, .h), (.sla_l, .sla, .l), (.sla_a, .sla, .a), (.sra_b, .sra, .b), (.sra_c, .sra, .c), (.sra_d, .sra, .d), (.sra_e, .sra, .e), (.sra_h, .sra, .h)],
    [(.sra_l, .sra, .l), (.sra_a, .sra, .a), (.swap_b, .swap, .b), (.swap_c, .swap, .c), (.swap_d, .swap, .d), (.swap_e, .swap, .e), (.swap_h, .swap, .h), (.swap_l, .swap, .l)],
    [(.swap_a, .swap, .a), (.srl_b, .srl, .b), (.srl_c, .srl, .c), (.srl_d, .srl, .d), (.srl_e, .srl, .e), (.srl_h, .srl, .h), (.srl_l, .srl, .l), (.srl_a, .srl, .a)]]

/-- CB rotates, shifts and SWAP of (HL) (R491 to R498). -/
def cbRotHlForms : List (Instr × RotOp) :=
  [(.rlc_mhl, .rlc), (.rrc_mhl, .rrc), (.rl_mhl, .rl), (.rr_mhl, .rr), (.sla_mhl, .sla), (.sra_mhl, .sra), (.swap_mhl, .swap), (.srl_mhl, .srl)]

/-- BIT b, r (R499). -/
def bitForms : List (Instr × Nat × R8) :=
  List.flatten [
    [(.bit_0_b, 0, .b), (.bit_0_c, 0, .c), (.bit_0_d, 0, .d), (.bit_0_e, 0, .e), (.bit_0_h, 0, .h), (.bit_0_l, 0, .l), (.bit_0_a, 0, .a), (.bit_1_b, 1, .b)],
    [(.bit_1_c, 1, .c), (.bit_1_d, 1, .d), (.bit_1_e, 1, .e), (.bit_1_h, 1, .h), (.bit_1_l, 1, .l), (.bit_1_a, 1, .a), (.bit_2_b, 2, .b), (.bit_2_c, 2, .c)],
    [(.bit_2_d, 2, .d), (.bit_2_e, 2, .e), (.bit_2_h, 2, .h), (.bit_2_l, 2, .l), (.bit_2_a, 2, .a), (.bit_3_b, 3, .b), (.bit_3_c, 3, .c), (.bit_3_d, 3, .d)],
    [(.bit_3_e, 3, .e), (.bit_3_h, 3, .h), (.bit_3_l, 3, .l), (.bit_3_a, 3, .a), (.bit_4_b, 4, .b), (.bit_4_c, 4, .c), (.bit_4_d, 4, .d), (.bit_4_e, 4, .e)],
    [(.bit_4_h, 4, .h), (.bit_4_l, 4, .l), (.bit_4_a, 4, .a), (.bit_5_b, 5, .b), (.bit_5_c, 5, .c), (.bit_5_d, 5, .d), (.bit_5_e, 5, .e), (.bit_5_h, 5, .h)],
    [(.bit_5_l, 5, .l), (.bit_5_a, 5, .a), (.bit_6_b, 6, .b), (.bit_6_c, 6, .c), (.bit_6_d, 6, .d), (.bit_6_e, 6, .e), (.bit_6_h, 6, .h), (.bit_6_l, 6, .l)],
    [(.bit_6_a, 6, .a), (.bit_7_b, 7, .b), (.bit_7_c, 7, .c), (.bit_7_d, 7, .d), (.bit_7_e, 7, .e), (.bit_7_h, 7, .h), (.bit_7_l, 7, .l), (.bit_7_a, 7, .a)]]

/-- BIT b, (HL) (R499). -/
def bitHlForms : List (Instr × Nat) :=
  [(.bit_0_mhl, 0), (.bit_1_mhl, 1), (.bit_2_mhl, 2), (.bit_3_mhl, 3), (.bit_4_mhl, 4), (.bit_5_mhl, 5), (.bit_6_mhl, 6), (.bit_7_mhl, 7)]

/-- RES b, r (R500). -/
def resForms : List (Instr × Nat × R8) :=
  List.flatten [
    [(.res_0_b, 0, .b), (.res_0_c, 0, .c), (.res_0_d, 0, .d), (.res_0_e, 0, .e), (.res_0_h, 0, .h), (.res_0_l, 0, .l), (.res_0_a, 0, .a), (.res_1_b, 1, .b)],
    [(.res_1_c, 1, .c), (.res_1_d, 1, .d), (.res_1_e, 1, .e), (.res_1_h, 1, .h), (.res_1_l, 1, .l), (.res_1_a, 1, .a), (.res_2_b, 2, .b), (.res_2_c, 2, .c)],
    [(.res_2_d, 2, .d), (.res_2_e, 2, .e), (.res_2_h, 2, .h), (.res_2_l, 2, .l), (.res_2_a, 2, .a), (.res_3_b, 3, .b), (.res_3_c, 3, .c), (.res_3_d, 3, .d)],
    [(.res_3_e, 3, .e), (.res_3_h, 3, .h), (.res_3_l, 3, .l), (.res_3_a, 3, .a), (.res_4_b, 4, .b), (.res_4_c, 4, .c), (.res_4_d, 4, .d), (.res_4_e, 4, .e)],
    [(.res_4_h, 4, .h), (.res_4_l, 4, .l), (.res_4_a, 4, .a), (.res_5_b, 5, .b), (.res_5_c, 5, .c), (.res_5_d, 5, .d), (.res_5_e, 5, .e), (.res_5_h, 5, .h)],
    [(.res_5_l, 5, .l), (.res_5_a, 5, .a), (.res_6_b, 6, .b), (.res_6_c, 6, .c), (.res_6_d, 6, .d), (.res_6_e, 6, .e), (.res_6_h, 6, .h), (.res_6_l, 6, .l)],
    [(.res_6_a, 6, .a), (.res_7_b, 7, .b), (.res_7_c, 7, .c), (.res_7_d, 7, .d), (.res_7_e, 7, .e), (.res_7_h, 7, .h), (.res_7_l, 7, .l), (.res_7_a, 7, .a)]]

/-- RES b, (HL) (R500). -/
def resHlForms : List (Instr × Nat) :=
  [(.res_0_mhl, 0), (.res_1_mhl, 1), (.res_2_mhl, 2), (.res_3_mhl, 3), (.res_4_mhl, 4), (.res_5_mhl, 5), (.res_6_mhl, 6), (.res_7_mhl, 7)]

/-- SET b, r (R501). -/
def setForms : List (Instr × Nat × R8) :=
  List.flatten [
    [(.set_0_b, 0, .b), (.set_0_c, 0, .c), (.set_0_d, 0, .d), (.set_0_e, 0, .e), (.set_0_h, 0, .h), (.set_0_l, 0, .l), (.set_0_a, 0, .a), (.set_1_b, 1, .b)],
    [(.set_1_c, 1, .c), (.set_1_d, 1, .d), (.set_1_e, 1, .e), (.set_1_h, 1, .h), (.set_1_l, 1, .l), (.set_1_a, 1, .a), (.set_2_b, 2, .b), (.set_2_c, 2, .c)],
    [(.set_2_d, 2, .d), (.set_2_e, 2, .e), (.set_2_h, 2, .h), (.set_2_l, 2, .l), (.set_2_a, 2, .a), (.set_3_b, 3, .b), (.set_3_c, 3, .c), (.set_3_d, 3, .d)],
    [(.set_3_e, 3, .e), (.set_3_h, 3, .h), (.set_3_l, 3, .l), (.set_3_a, 3, .a), (.set_4_b, 4, .b), (.set_4_c, 4, .c), (.set_4_d, 4, .d), (.set_4_e, 4, .e)],
    [(.set_4_h, 4, .h), (.set_4_l, 4, .l), (.set_4_a, 4, .a), (.set_5_b, 5, .b), (.set_5_c, 5, .c), (.set_5_d, 5, .d), (.set_5_e, 5, .e), (.set_5_h, 5, .h)],
    [(.set_5_l, 5, .l), (.set_5_a, 5, .a), (.set_6_b, 6, .b), (.set_6_c, 6, .c), (.set_6_d, 6, .d), (.set_6_e, 6, .e), (.set_6_h, 6, .h), (.set_6_l, 6, .l)],
    [(.set_6_a, 6, .a), (.set_7_b, 7, .b), (.set_7_c, 7, .c), (.set_7_d, 7, .d), (.set_7_e, 7, .e), (.set_7_h, 7, .h), (.set_7_l, 7, .l), (.set_7_a, 7, .a)]]

/-- SET b, (HL) (R501). -/
def setHlForms : List (Instr × Nat) :=
  [(.set_0_mhl, 0), (.set_1_mhl, 1), (.set_2_mhl, 2), (.set_3_mhl, 3), (.set_4_mhl, 4), (.set_5_mhl, 5), (.set_6_mhl, 6), (.set_7_mhl, 7)]

/-- JP cc, a16 (R514). -/
def jpCcForms : List ((Half → Instr) × CC) :=
  [(.jp_nz_a16, .nz), (.jp_z_a16, .z), (.jp_nc_a16, .nc), (.jp_c_a16, .c)]

/-- JR cc, e8 (R517). -/
def jrCcForms : List ((Byte → Instr) × CC) :=
  [(.jr_nz_e8, .nz), (.jr_z_e8, .z), (.jr_nc_e8, .nc), (.jr_c_e8, .c)]

/-- CALL cc, a16 (R519). -/
def callCcForms : List ((Half → Instr) × CC) :=
  [(.call_nz_a16, .nz), (.call_z_a16, .z), (.call_nc_a16, .nc), (.call_c_a16, .c)]

/-- RET cc (R521). -/
def retCcForms : List (Instr × CC) :=
  [(.ret_nz, .nz), (.ret_z, .z), (.ret_nc, .nc), (.ret_c, .c)]

/-- RST with t (R522). -/
def rstForms : List (Instr × Nat) :=
  [(.rst_00, 0), (.rst_08, 1), (.rst_10, 2), (.rst_18, 3), (.rst_20, 4), (.rst_28, 5), (.rst_30, 6), (.rst_38, 7)]

end Sys2Proof.Machine
end

