-- ==== Sys2Proof/Certificates/Slice0/Obligations.lean ====
section
/-! DEFINITION. The statements about the model, for the provers. Each docstring names the rules it comes from. In all of them the
model's own choices are: `draws` and the free values (log 5), `events` (log 6), what a fault carries in its `Site` (log 7), and
the cells of the backing store (log 4). -/

open Sys2Proof Sys2Proof.Machine

/-! ## Encoding -/

/-- Words and bytes written out bit by bit from the formats of 30_encoding.md R171 and the tables of R200 to R205 decode to the
instructions they stand for: every A32 format, some of each N8 family, operand bytes in little-endian order. -/
def Obligations.DecodeSamples : Prop :=
  decodeWord 0b1110_1011_000000000000000000000001#32 = .ok (.bl .al 1) ∧
  decodeWord 0b0000_1010_111111111111111111111110#32 = .ok (.b .eq 0xFFFFFE) ∧
  decodeWord 0b1110_00010010_111111111111_0001_1110#32 = .ok (.bx .al 14) ∧
  decodeWord 0b1110_00_0_0010_1_0001_0000_00000_00_0_0010#32 = .ok (.subShift .al true 1 0 ⟨.lsl, 0, 2⟩) ∧
  decodeWord 0b1110_00_1_1101_0_0000_0000_1111_11111111#32 = .ok (.movImm .al false 0 ⟨15, 0xFF⟩) ∧
  decodeWord 0b1110_00_0_1010_1_0001_0000_0011_0_11_1_0010#32 = .ok (.cmpShiftReg .al 1 ⟨.ror, 3, 2⟩) ∧
  decodeWord 0b1110_000000_1_1_0000_0011_0010_1001_0001#32 = .ok (.mla .al true 0 3 2 1) ∧
  decodeWord 0b1110_00001_1_0_0_0001_0000_0011_1001_0010#32 = .ok (.smull .al false 1 0 3 2) ∧
  decodeWord 0b1110_00010_1_00_0001_0000_0000_1001_0010#32 = .ok (.swpb .al 1 0 2) ∧
  decodeWord 0b1110_00010_0_001111_0000_000000000000#32 = .ok (.mrs .al 0) ∧
  decodeWord 0b1110_00010_0_10_0001_1111_00000000_0000#32 = .ok (.msrReg .al 1 0) ∧
  decodeWord 0b1110_00110_0_10_1000_1111_0010_00001111#32 = .ok (.msrImm .al 8 ⟨2, 0x0F⟩) ∧
  decodeWord 0b1110_01_0_1_1_0_1_1_0001_0000_000000000100#32 = .ok (.ldrImmPre .al true true 1 0 4) ∧
  decodeWord 0b1110_01_1_0_0_1_0_0_0001_0000_00010_01_0_0011#32 = .ok (.strbRegPost .al false 1 0 ⟨.lsr, 2, 3⟩) ∧
  decodeWord 0b1110_000_1_1_1_0_1_0001_0000_0001_1_11_1_0010#32 = .ok (.ldrshImm .al true true false 1 0 0x12) ∧
  decodeWord 0b1110_000_0_0_0_0_0_0001_0000_0000_1_01_1_0010#32 = .ok (.strhReg .al false false false 1 0 2) ∧
  decodeWord 0b1110_100_0_1_0_1_1_1101_1000000000000001#32 = .ok (.ldmia .al true 13 0x8001) ∧
  decodeWord 0b1110_100_1_0_0_1_0_1101_0100000000000000#32 = .ok (.stmdb .al true 13 0x4000) ∧
  decodeN8 [0b01_000_111] = .ok (.ld_b_a, []) ∧
  decodeN8 [0b01_111_110, 0x55] = .ok (.ld_a_mhl, [0x55]) ∧
  decodeN8 [0b00_101_110, 0x42] = .ok (.ld_l_d8 0x42, []) ∧
  decodeN8 [0x08, 0x34, 0xC1] = .ok (.ld_ma16_sp 0xC134, []) ∧
  decodeN8 [0b00_10_0001, 0x00, 0xC0, 0x01] = .ok (.ld_hl_d16 0xC000, [0x01]) ∧
  decodeN8 [0xE0, 0x80] = .ok (.ldh_ma8_a 0x80, []) ∧
  decodeN8 [0b11_11_0001] = .ok (.pop_af, []) ∧
  decodeN8 [0b10_011_100] = .ok (.sbc_a_h, []) ∧
  decodeN8 [0b11_111_110, 0x40] = .ok (.cp_d8 0x40, []) ∧
  decodeN8 [0b00_110_101] = .ok (.dec_mhl, []) ∧
  decodeN8 [0b00_11_1001] = .ok (.add_hl_sp, []) ∧
  decodeN8 [0xE8, 0xFF] = .ok (.add_sp_e8 0xFF, []) ∧
  decodeN8 [0xCB, 0b00_110_111] = .ok (.swap_a, []) ∧
  decodeN8 [0xCB, 0b01_111_110] = .ok (.bit_7_mhl, []) ∧
  decodeN8 [0xCB, 0b11_000_110, 0xC0] = .ok (.set_0_mhl, [0xC0]) ∧
  decodeN8 [0b001_01_000, 0xFE] = .ok (.jr_z_e8 0xFE, []) ∧
  decodeN8 [0b110_10_100, 0x00, 0x02] = .ok (.call_nc_a16 0x0200, []) ∧
  decodeN8 [0b11_101_111] = .ok (.rst_28, [])

/-- Every A32 instruction is read back from its word, whatever its operands (R170, R171, R180 to R185). -/
def Obligations.DecodeEncodeA32 : Prop := ∀ i : Instr, i.profile = .a32 → decodeWord i.word = .ok i

/-- Every N8 instruction is read back from its bytes, with what follows them left over; and the bytes the decoder takes are the
encoding of the instruction it reads (R200 to R205). -/
def Obligations.DecodeEncodeN8 : Prop :=
  (∀ (i : Instr) (rest : List Byte), i.profile = .n8 → decodeN8 (encode i ++ rest) = .ok (i, rest)) ∧
  (∀ (bytes rest : List Byte) (i : Instr), decodeN8 bytes = .ok (i, rest) → encode i ++ rest = bytes ∧ i.profile = .n8)

/-- A word the A32 decoder accepts is the encoding of the instruction it reads: no two words mean the same instruction, and no bit
is ignored (R171, R185). -/
def Obligations.EncodeDecodeA32 : Prop := ∀ (w : Word) (i : Instr), decodeWord w = .ok i → i.word = w ∧ i.profile = .a32

/-- Exactly these words are of an unrecognized class (R170, R172): SWI and coprocessor spaces, the undefined space, and the
patterns of the multiply, extra load and store, and miscellaneous spaces that R170 assigns to no class. -/
def Obligations.UnrecognizedWords : Prop :=
  ∀ w : Word, decodeA32 w = none ↔
    (fld 26 2 w = 0b11#2) ∨
    (fld 25 3 w = 0b011#3 ∧ fld 4 1 w = 1#1) ∨
    (fld 25 3 w = 0b001#3 ∧ fld 23 2 w = 0b10#2 ∧ fld 20 2 w = 0b00#2) ∨
    (fld 25 3 w = 0b000#3 ∧ fld 4 1 w = 1#1 ∧ fld 7 1 w = 1#1 ∧ fld 5 2 w = 0b00#2 ∧
      (fld 24 1 w = 0#1 ∧ fld 23 1 w = 0#1 ∧ fld 22 1 w = 1#1 ∨
       fld 24 1 w = 1#1 ∧ (fld 23 1 w = 1#1 ∨ fld 20 2 w ≠ 0b00#2))) ∨
    (fld 25 3 w = 0b000#3 ∧ fld 4 1 w = 1#1 ∧ fld 7 1 w = 1#1 ∧ fld 6 1 w = 1#1 ∧ fld 20 1 w = 0#1) ∨
    (fld 25 3 w = 0b000#3 ∧ ¬(fld 4 1 w = 1#1 ∧ fld 7 1 w = 1#1) ∧ fld 23 2 w = 0b10#2 ∧ fld 20 1 w = 0#1 ∧
      fld 4 4 w ≠ 0b0000#4 ∧ ¬(fld 4 4 w = 0b0001#4 ∧ fld 21 2 w = 0b01#2))

/-- The length of an N8 instruction is decided by its first byte, and the fifteen bytes of R206 have no table entry
(R203, R206). -/
def Obligations.OpcodeLengths : Prop :=
  ∀ op : Byte, n8Length op =
    if op ∈ [0x10#8, 0xD9#8, 0xF3#8, 0xFB#8, 0xD3#8, 0xDB#8, 0xDD#8, 0xE3#8, 0xE4#8, 0xEB#8, 0xEC#8, 0xED#8, 0xF4#8,
             0xFC#8, 0xFD#8] then none
    else if op ∈ [0x06#8, 0x0E#8, 0x16#8, 0x1E#8, 0x26#8, 0x2E#8, 0x36#8, 0x3E#8, 0x18#8, 0x20#8, 0x28#8, 0x30#8, 0x38#8,
                  0xC6#8, 0xCE#8, 0xD6#8, 0xDE#8, 0xE6#8, 0xEE#8, 0xF6#8, 0xFE#8, 0xE0#8, 0xF0#8, 0xE8#8, 0xF8#8,
                  0xCB#8] then some 2
    else if op ∈ [0x01#8, 0x11#8, 0x21#8, 0x31#8, 0x08#8, 0xC2#8, 0xC3#8, 0xC4#8, 0xCA#8, 0xCC#8, 0xCD#8, 0xD2#8, 0xD4#8,
                  0xDA#8, 0xDC#8, 0xEA#8, 0xFA#8] then some 3
    else some 1

/-- The register combinations refused (R186), family by family, and nothing else of A32: S = 1 with Rd = 15; R15 in a
register shift, MRS, MSR, a multiply, a swap or an offset register; the multiply and swap overlaps; the byte and half-word transfers
of R15; write-back of R15 or of the transferred register; the block transfers of R380. No N8 instruction is refused. -/
def Obligations.RefusedCombinations : Prop :=
  (∀ (op : DpOp) (c : Cond) (s : Bool) (rn rd : Reg) (o : RotImm),
    wellFormed (dpImm c s rn rd o op) = true ↔ op.isCompare ∨ ¬(s ∧ rd = 15)) ∧
  (∀ (op : DpOp) (c : Cond) (s : Bool) (rn rd : Reg) (o : ShiftImm),
    wellFormed (dpShift c s rn rd o op) = true ↔ op.isCompare ∨ ¬(s ∧ rd = 15)) ∧
  (∀ (op : DpOp) (c : Cond) (s : Bool) (rn rd : Reg) (o : ShiftReg),
    wellFormed (dpShiftReg c s rn rd o op) = true ↔
      o.rm ≠ 15 ∧ o.rs ≠ 15 ∧ (op.isMove ∨ rn ≠ 15) ∧ (op.isCompare ∨ rd ≠ 15)) ∧
  (∀ (c : Cond) (rd : Reg), wellFormed (.mrs c rd) = true ↔ rd ≠ 15) ∧
  (∀ (c : Cond) (m : BitVec 4) (rm : Reg), wellFormed (.msrReg c m rm) = true ↔ rm ≠ 15) ∧
  (∀ (c : Cond) (sf : Bool) (rd rs rm : Reg),
    wellFormed (.mul c sf rd rs rm) = true ↔ rd ≠ 15 ∧ rs ≠ 15 ∧ rm ≠ 15 ∧ rd ≠ rm) ∧
  (∀ (c : Cond) (sf : Bool) (rd rn rs rm : Reg),
    wellFormed (.mla c sf rd rn rs rm) = true ↔ rd ≠ 15 ∧ rn ≠ 15 ∧ rs ≠ 15 ∧ rm ≠ 15 ∧ rd ≠ rm) ∧
  (∀ (c : Cond) (sf : Bool) (hi lo rs rm : Reg) (i : Instr),
    i ∈ [Instr.umull c sf hi lo rs rm, .umlal c sf hi lo rs rm, .smull c sf hi lo rs rm, .smlal c sf hi lo rs rm] →
    (wellFormed i = true ↔ hi ≠ 15 ∧ lo ≠ 15 ∧ rs ≠ 15 ∧ rm ≠ 15 ∧ hi ≠ lo ∧ hi ≠ rm ∧ lo ≠ rm)) ∧
  (∀ (c : Cond) (rn rd rm : Reg) (i : Instr), i ∈ [Instr.swp c rn rd rm, .swpb c rn rd rm] →
    (wellFormed i = true ↔ rn ≠ 15 ∧ rd ≠ 15 ∧ rm ≠ 15 ∧ rn ≠ rm ∧ rn ≠ rd)) ∧
  (∀ (c : Cond) (up wb : Bool) (rn rd : Reg) (imm : BitVec 12) (i : Instr) (byte back : Bool),
    (i, byte, back) ∈ [(Instr.ldrImmPre c up wb rn rd imm, false, wb), (.ldrImmPost c up rn rd imm, false, true),
      (.ldrtImm c up rn rd imm, false, true), (.ldrbImmPre c up wb rn rd imm, true, wb),
      (.ldrbImmPost c up rn rd imm, true, true), (.ldrbtImm c up rn rd imm, true, true),
      (.strImmPre c up wb rn rd imm, false, wb), (.strImmPost c up rn rd imm, false, true),
      (.strtImm c up rn rd imm, false, true), (.strbImmPre c up wb rn rd imm, true, wb),
      (.strbImmPost c up rn rd imm, true, true), (.strbtImm c up rn rd imm, true, true)] →
    (wellFormed i = true ↔ ¬(byte ∧ rd = 15) ∧ ¬(back ∧ (rn = 15 ∨ rn = rd)))) ∧
  (∀ (c : Cond) (up wb : Bool) (rn rd : Reg) (o : ShiftImm) (i : Instr) (byte back : Bool),
    (i, byte, back) ∈ [(Instr.ldrRegPre c up wb rn rd o, false, wb), (.ldrRegPost c up rn rd o, false, true),
      (.ldrtReg c up rn rd o, false, true), (.ldrbRegPre c up wb rn rd o, true, wb),
      (.ldrbRegPost c up rn rd o, true, true), (.ldrbtReg c up rn rd o, true, true),
      (.strRegPre c up wb rn rd o, false, wb), (.strRegPost c up rn rd o, false, true),
      (.strtReg c up rn rd o, false, true), (.strbRegPre c up wb rn rd o, true, wb),
      (.strbRegPost c up rn rd o, true, true), (.strbtReg c up rn rd o, true, true)] →
    (wellFormed i = true ↔ o.rm ≠ 15 ∧ ¬(byte ∧ rd = 15) ∧ ¬(back ∧ (rn = 15 ∨ rn = rd)))) ∧
  (∀ (c : Cond) (pre up wb : Bool) (rn rd rm : Reg) (imm : Byte) (i : Instr) (offset : Option Reg),
    (i, offset) ∈ [(Instr.ldrhImm c pre up wb rn rd imm, none), (.strhImm c pre up wb rn rd imm, none),
      (.ldrsbImm c pre up wb rn rd imm, none), (.ldrshImm c pre up wb rn rd imm, none),
      (.ldrhReg c pre up wb rn rd rm, some rm), (.strhReg c pre up wb rn rd rm, some rm),
      (.ldrsbReg c pre up wb rn rd rm, some rm), (.ldrshReg c pre up wb rn rd rm, some rm)] →
    (wellFormed i = true ↔ ¬(pre = false ∧ wb) ∧ rd ≠ 15 ∧ offset ≠ some 15 ∧
      ¬((pre = false ∨ wb) ∧ (rn = 15 ∨ rn = rd)))) ∧
  (∀ (m : BlockMode) (c : Cond) (wb : Bool) (rn : Reg) (list : BitVec 16),
    (wellFormed (ldmOf m c wb rn list) = true ↔ list ≠ 0 ∧ rn ≠ 15 ∧ ¬(wb ∧ rn ∈ registersOf list)) ∧
    (wellFormed (stmOf m c wb rn list) = true ↔
      list ≠ 0 ∧ rn ≠ 15 ∧ ¬(wb ∧ rn ∈ registersOf list ∧ (registersOf list).head? ≠ some rn))) ∧
  (∀ (c : Cond) (off : BitVec 24) (rm : Reg) (mask : BitVec 4) (o : RotImm) (i : Instr),
    i ∈ [Instr.b c off, .bl c off, .bx c rm, .msrImm c mask o] → wellFormed i = true) ∧
  (∀ i : Instr, i.profile = .n8 → wellFormed i = true)

/-! ## The step -/

/-- What a step does before any fetch: while not running it changes nothing and calls `advance(0)`, an event of the model (log 6)
(R220); in A32 with T = 1 it faults and leaves the state as it was (R221). -/
def Obligations.StepBeforeFetch : Prop :=
  (∀ s : State, s.running = false → step s = .next { s with events := .advance 0 :: s.events }) ∧
  (∀ s : State, s.running = true → s.cfg.profile = .a32 → flagT s.sw = true →
    ∃ f, step s = .fault f ∧ f = .invalidMode s.site .thumb ∧ afterFault s f = s)

/-- A step of A32 whose fetched word decodes runs that instruction, in the state the fetch leaves; a word whose condition
fails is never classified: R15 moves past it and the fetch is all that is seen (R222, R223, R224, R225). -/
def Obligations.StepRunsA32 : Prop :=
  ∀ (s : State) (r : Region) (o : Nat), s.running = true → s.cfg.profile = .a32 → flagT s.sw = false →
    route s.cfg (s.getX 15).toNat 4 = some (r, o) →
    (∀ i, conditionPassed (condOf (s.readValue r o .word)) s.sw = true → decodeWord (s.readValue r o .word) = .ok i →
      step s = exec i (s.afterRead r o .word)) ∧
    (conditionPassed (condOf (s.readValue r o .word)) s.sw = false →
      ∃ t, step s = .next t ∧ A32Ends s (s.afterRead r o .word) t [] s.sw (s.cfg.cost .condFailed))

/-- A word whose condition passed and whose class is unrecognized faults in STRICT mode, leaving the state as it was but for the
latch and the draws (log 5, log 7), and is a logged no-op in PERMISSIVE mode; a word of an admitted class with a fixed field
violated faults in either mode (R226, R227, R187). Which reason a word with several violations gives is the model's choice
(log 8). -/
def Obligations.StepRefusesWord : Prop :=
  ∀ (s : State) (r : Region) (o : Nat) (reason : DecodeReason), s.running = true → s.cfg.profile = .a32 →
    flagT s.sw = false → route s.cfg (s.getX 15).toNat 4 = some (r, o) →
    conditionPassed (condOf (s.readValue r o .word)) s.sw = true →
    decodeWord (s.readValue r o .word) = .error (.malformed reason) →
    (s.cfg.decodeMode = .strict ∨ reason ≠ .unrecognizedClass →
      step s = .fault (.decode ⟨.a32, s.getX 15, s.readValue r o .word, s.draws + drawsOf r 4⟩
        (s.readValue r o .word) (s.getX 15) reason)) ∧
    (s.cfg.decodeMode = .permissive → reason = .unrecognizedClass →
      ∃ t, step s = .next t ∧
        A32Ends s ((s.afterRead r o .word).emit (.unrecognizedNoOp (s.getX 15) (s.readValue r o .word))) t [] s.sw
          (s.cfg.cost .unrecognizedNoOp))

/-- A step of N8 whose bytes at PC, read one after another, decode to an instruction runs it, in the state those fetches
leave (R230, R202, R232). -/
def Obligations.StepRunsN8 : Prop :=
  ∀ (s u : State) (n : Nat) (bytes : List Byte) (i : Instr), s.running = true → s.cfg.profile = .n8 →
    readStream s s.pc n = .ok (bytes, u) → decodeN8 bytes = .ok (i, []) → step s = exec i u

/-- An opcode byte without a table entry faults at once: no operand byte is fetched, and of the state only the latch changes
(R231, R234). That the count of draws rises where the byte came from an I/O block (R129) is the model's choice (log 5), and that the
fault carries both in its `Site` is the model's reading of R234.4 (log 7). -/
def Obligations.StepUnimplemented : Prop :=
  ∀ (s : State) (r : Region) (o : Nat), s.running = true → s.cfg.profile = .n8 → Routes8 s s.pc r o →
    n8Length (byteRead s r o) = none →
    ∃ f site, step s = .fault f ∧ f = .unimplemented site (byteRead s r o) s.pc ∧
      afterFault s f = { s with openBus := (byteRead s r o).setWidth 32, draws := s.draws + drawsOf r 1 }

/-- A fetch that is not routed faults with the fetch address: the word at R15 in A32; in N8 the opcode byte, or an
operand byte after it, whatever the instruction (R222, R230, R510). The `Site` of the fault is log 7. -/
def Obligations.FetchFaults : Prop :=
  (∀ s : State, s.running = true → s.cfg.profile = .a32 → flagT s.sw = false →
    route s.cfg (s.getX 15).toNat 4 = none →
    step s = .fault (.bus ⟨.a32, s.getX 15, s.openBus, s.draws⟩ (s.getX 15) .word .read)) ∧
  (∀ s : State, s.running = true → s.cfg.profile = .n8 → route s.cfg s.pc.toNat 1 = none →
    step s = .fault (.bus ⟨.n8, s.pc.setWidth 32, s.openBus, s.draws⟩ (s.pc.setWidth 32) .byte .read)) ∧
  (∀ (s : State) (r : Region) (o n : Nat) (f : Fault), s.running = true → s.cfg.profile = .n8 → Routes8 s s.pc r o →
    n8Length (byteRead s r o) = some n → readStream s s.pc n = .error f → step s = .fault f)

/-- An A32 instruction whose condition fails moves R15 past itself and does nothing else, even where its operands would be refused
(R224, R225); one whose condition passes and whose operands R186 refuses faults with its word, its address and the reason (R227);
which reason stands first where there are several is the model's choice (log 8). -/
def Obligations.ConditionAndRefusal : Prop :=
  (∀ (i : Instr) (s : State), i.profile = .a32 → conditionPassed (condOf i.word) s.sw = false →
    ∃ t, exec i s = .next t ∧ A32Ends s s t [] s.sw (s.cfg.cost .condFailed)) ∧
  (∀ (i : Instr) (s : State) (reason : DecodeReason), i.profile = .a32 → conditionPassed (condOf i.word) s.sw = true →
    i.encodingError = some reason → exec i s = .fault (.decode s.site i.word (s.getX 15) reason))

/-- The conditions of A32 (R161, R162, R224): each of the sixteen codes against the four flag bits of the status word; and of N8
(R510): NZ and Z against bit 7 of F, NC and C against bit 4, as JP, JR, CALL and RET use them. -/
def Obligations.Conditions : Prop :=
  (∀ f : Byte, ccPassed .nz f = !f.getLsbD 7 ∧ ccPassed .z f = f.getLsbD 7 ∧
    ccPassed .nc f = !f.getLsbD 4 ∧ ccPassed .c f = f.getLsbD 4) ∧
  ∀ (sw : Word) (k : BitVec 4), conditionPassed (.ofCode k) sw =
    (let n := sw.getLsbD 31
     let z := sw.getLsbD 30
     let c := sw.getLsbD 29
     let v := sw.getLsbD 28
     let base := match (k.extractLsb' 1 3).toNat with
       | 0 => z
       | 1 => c
       | 2 => n
       | 3 => v
       | 4 => c && !z
       | 5 => decide (n = v)
       | 6 => !z && decide (n = v)
       | _ => true
     if k.getLsbD 0 && k != 15 then !base else base)

/-! ## A32 registers, status and data processing -/

/-- `ReadReg`, `WriteReg` and `WritePC` (R46, R47, R236, R237): R15 reads as its address plus 8 and is written masked to the
fetch granularity; R0 to R14 are plain; a later write of the same register replaces an earlier one. -/
def Obligations.RegisterAccess : Prop :=
  ∀ (s : State) (i j : Reg) (v w : Word),
    (s.readReg i = if i = 15 then s.getX 15 + 8 else s.getX i) ∧
    ((s.writeReg i v).getX j =
      if j = i then (if i = 15 then (if s.sw.getLsbD 5 then v - v % 2 else v - v % 4) else v) else s.getX j) ∧
    ((s.writeReg i v).writeReg i w = s.writeReg i w) ∧
    (s.writeReg 15 v = s.writePC v)

/-- `SetFlags` of both profiles (R73): each flag named takes its value, and every other bit of the status word is the same. -/
def Obligations.SetFlagsFrame : Prop :=
  (∀ (sw : Word) (f : FlagsA32) (j : Nat), (setFlagsA32 sw f).getLsbD j =
    match (if j = 31 then f.n else if j = 30 then f.z else if j = 29 then f.c else if j = 28 then f.v else none) with
    | some b => b
    | none => sw.getLsbD j) ∧
  (∀ (f : Byte) (u : FlagsN8) (j : Nat), (setFlagsN8 f u).getLsbD j =
    match (if j = 7 then u.z else if j = 6 then u.n else if j = 5 then u.h else if j = 4 then u.c else none) with
    | some b => b
    | none => f.getLsbD j)

/-- The rotated immediate (R181): bit `j` of the operand is bit `j + 2 · rotate`, modulo 32, of the 8-bit immediate. -/
def Obligations.RotatedImmediate : Prop :=
  (∀ (o : RotImm) (j : Nat), j < 32 →
    (rotImmValue o).getLsbD j = (o.imm.setWidth 32).getLsbD ((j + 2 * o.rot.toNat) % 32)) ∧
  rotImmValue ⟨0xF, 0xFF⟩ = 0x000003FC ∧ rotImmValue ⟨0x4, 0x01⟩ = 0x01000000

/-- The operands of data processing. What each form takes from the state: the rotated immediate with its carry (R280), Rm read as
the visible PC where it is R15 and the amount of the instruction (R281), R[Rm] and the amount R[Rs][7:0] (R184, R282). The shifter, in
arithmetic: with an immediate (R281), where an amount of 0 is LSL by 0, LSR or ASR by 32, or RRX; and with a register (R282), amounts
of 0 to 255. -/
def Obligations.Shifts : Prop :=
  (∀ (o : RotImm) (s : State), rotImmOperand o s =
    ⟨rotImmValue o, if o.rot = 0 then s.sw.getLsbD 29 else (rotImmValue o).getLsbD 31⟩) ∧
  (∀ (o : ShiftImm) (s : State), shiftImmOperand o s =
    shiftByImm o.kind (if o.rm = 15 then s.getX 15 + 8 else s.getX o.rm) o.amount.toNat (s.sw.getLsbD 29)) ∧
  (∀ (o : ShiftReg) (s : State), o.rm ≠ 15 → o.rs ≠ 15 → shiftRegOperand o s =
    shiftByReg o.kind (s.getX o.rm) ((s.getX o.rs).extractLsb' 0 8).toNat (s.sw.getLsbD 29)) ∧
  (∀ (m : Word) (n : Nat) (c : Bool), n < 32 →
    ((shiftByImm .lsl m n c).value.toNat = m.toNat * 2 ^ n % 2 ^ 32 ∧
      (shiftByImm .lsl m n c).carry = if n = 0 then c else m.getLsbD (32 - n)) ∧
    ((shiftByImm .lsr m n c).value.toNat = m.toNat / 2 ^ (if n = 0 then 32 else n) ∧
      (shiftByImm .lsr m n c).carry = m.getLsbD (if n = 0 then 31 else n - 1)) ∧
    ((shiftByImm .asr m n c).value.toInt = m.toInt / 2 ^ (if n = 0 then 32 else n) ∧
      (shiftByImm .asr m n c).carry = m.getLsbD (if n = 0 then 31 else n - 1)) ∧
    (∀ j, j < 32 → (shiftByImm .ror m n c).value.getLsbD j =
      if n = 0 then (if j = 31 then c else m.getLsbD (j + 1)) else m.getLsbD ((j + n) % 32)) ∧
    ((shiftByImm .ror m n c).carry = m.getLsbD (if n = 0 then 0 else n - 1))) ∧
  (∀ (m : Word) (n : Nat) (c : Bool),
    (∀ k, shiftByReg k m 0 c = ⟨m, c⟩) ∧
    (0 < n → n < 256 →
      ((shiftByReg .lsl m n c).value.toNat = m.toNat * 2 ^ n % 2 ^ 32 ∧
        (shiftByReg .lsl m n c).carry = (decide (n ≤ 32) && m.getLsbD (32 - n))) ∧
      ((shiftByReg .lsr m n c).value.toNat = m.toNat / 2 ^ n ∧
        (shiftByReg .lsr m n c).carry = m.getLsbD (n - 1)) ∧
      ((shiftByReg .asr m n c).value.toInt = m.toInt / 2 ^ n ∧
        (shiftByReg .asr m n c).carry = m.getLsbD (if n < 32 then n - 1 else 31)) ∧
      (∀ j, j < 32 → (shiftByReg .ror m n c).value.getLsbD j = m.getLsbD ((j + n) % 32)) ∧
      ((shiftByReg .ror m n c).carry = m.getLsbD ((n + 31) % 32))))

/-- The results and flags of the eight arithmetic operations (R283, R284, R287 to R292, R295, R296): the exact sum or
difference modulo 2^32; C is the carry, or no borrow; V says that the signed result does not fit; N and Z of the result. -/
def Obligations.ArithmeticResults : Prop :=
  ∀ (n o : Word) (shC c : Bool) (op : DpOp) (u : Int) (v : Int),
    (op, u, v) ∈ [
      (DpOp.sub, (n.toNat : Int) - o.toNat, n.toInt - o.toInt),
      (DpOp.rsb, (o.toNat : Int) - n.toNat, o.toInt - n.toInt),
      (DpOp.add, (n.toNat : Int) + o.toNat, n.toInt + o.toInt),
      (DpOp.adc, (n.toNat : Int) + o.toNat + c.toNat, n.toInt + o.toInt + c.toNat),
      (DpOp.sbc, (n.toNat : Int) - o.toNat - (!c).toNat, n.toInt - o.toInt - (!c).toNat),
      (DpOp.rsc, (o.toNat : Int) - n.toNat - (!c).toNat, o.toInt - n.toInt - (!c).toNat),
      (DpOp.cmp, (n.toNat : Int) - o.toNat, n.toInt - o.toInt),
      (DpOp.cmn, (n.toNat : Int) + o.toNat, n.toInt + o.toInt)] →
    dpCompute op n o shC c =
      ⟨BitVec.ofInt 32 u,
        { n := some (BitVec.ofInt 32 u).msb, z := some (decide (u % 2 ^ 32 = 0)),
          c := some (if op ∈ [DpOp.add, DpOp.adc, DpOp.cmn] then decide (2 ^ 32 ≤ u) else decide (0 ≤ u)),
          v := some (decide (v < -2 ^ 31 ∨ 2 ^ 31 ≤ v)) }⟩

/-- The results and flags of the eight logical operations (R283, R285, R286, R293, R294, R297 to R300): bit by bit, C from
the shifter, V not written. -/
def Obligations.LogicalResults : Prop :=
  ∀ (n o : Word) (shC c : Bool) (op : DpOp) (f : Bool → Bool → Bool),
    (op, f) ∈ [(DpOp.and, fun a b => a && b), (DpOp.eor, fun a b => a != b), (DpOp.tst, fun a b => a && b),
      (DpOp.teq, fun a b => a != b), (DpOp.orr, fun a b => a || b), (DpOp.mov, fun _ b => b),
      (DpOp.bic, fun a b => a && !b), (DpOp.mvn, fun _ b => !b)] →
    (∀ j, j < 32 → (dpCompute op n o shC c).value.getLsbD j = f (n.getLsbD j) (o.getLsbD j)) ∧
    (dpCompute op n o shC c).flags =
      { n := some (dpCompute op n o shC c).value.msb, z := some (decide ((dpCompute op n o shC c).value = 0)),
        c := some shC, v := none }

/-- Every data-processing instruction completes, with an immediate, a register shifted by an immediate, or a register shifted by a
register, whatever its operands: the result to Rd unless it is a compare, the flags when S = 1 or it is a compare, and nothing
else (R280 to R283, R285 to R300). -/
def Obligations.DataProcessing : Prop :=
  ∀ (op : DpOp) (c : Cond) (sf : Bool) (rn rd : Reg) (o : RotImm) (o' : ShiftImm) (o'' : ShiftReg) (s : State) (i : Instr)
    (x : Shifted) (byReg : Bool),
    (i, x, byReg) ∈ [(dpImm c sf rn rd o op, rotImmOperand o s, false),
      (dpShift c sf rn rd o' op, shiftImmOperand o' s, false),
      (dpShiftReg c sf rn rd o'' op, shiftRegOperand o'' s, true)] →
    conditionPassed c s.sw = true → wellFormed i = true →
    A32Completes i s s
      (if op.isCompare then [] else [(rd, (dpCompute op (s.readReg rn) x.value x.carry (flagC s.sw)).value)])
      (if sf || op.isCompare then
        setFlagsA32 s.sw (dpCompute op (s.readReg rn) x.value x.carry (flagC s.sw)).flags
       else s.sw)
      (.dataProc byReg (!op.isCompare && rd == 15))

/-! ## A32 branches, multiplies and status transfers -/

/-- B and BL (R261, R262): their encoding, and their effect on every state: R15 takes the address plus 8 plus four times the signed
offset, BL leaves the address plus 4 in R14, and nothing else changes; neither faults. -/
def Obligations.Branches : Prop :=
  ∀ (c : Cond) (off : BitVec 24) (s : State),
    (Instr.b c off).word = c.code ++ 0b1010#4 ++ off ∧
    (Instr.bl c off).word = c.code ++ 0b1011#4 ++ off ∧
    (conditionPassed c s.sw = true →
      A32Completes (.b c off) s s [(15, s.getX 15 + 8 + BitVec.ofInt 32 (4 * off.toInt))] s.sw .b ∧
      A32Completes (.bl c off) s s
        [(14, s.getX 15 + 4), (15, s.getX 15 + 8 + BitVec.ofInt 32 (4 * off.toInt))] s.sw .bl)

/-- BX (R263): bit 0 of Rm goes to T, no other bit of the status word changes, and R15 takes Rm without bit 0, masked by the
new T. -/
def Obligations.BranchExchange : Prop :=
  ∀ (c : Cond) (rm : Reg) (s : State), conditionPassed c s.sw = true →
    A32Completes (.bx c rm) s s [(15, s.readReg rm &&& 0xFFFFFFFE)]
      (if (s.readReg rm).getLsbD 0 then s.sw ||| 0x00000020 else s.sw &&& 0xFFFFFFDF) .bx

/-- MUL and MLA (R331 to R333): the low 32 bits of the product, plus Rn in MLA; with S = 1, N and Z of the result, C a fresh draw (log 5) whatever
its value, V unchanged. The long multiplies (R331, R334 to R337): the 64-bit product, plus RdHi:RdLo in the accumulating forms,
modulo 2^64, its low word to RdLo and its high word to RdHi; with S = 1, N and Z of the 64 bits, C and V fresh draws. -/
def Obligations.Multiplies : Prop :=
  (∀ (c : Cond) (sf : Bool) (rd rn rs rm : Reg) (s : State) (i : Instr) (v : Word) (row : CostRow),
    (i, v, row) ∈ [
      (Instr.mul c sf rd rs rm, BitVec.ofNat 32 ((s.getX rm).toNat * (s.getX rs).toNat),
        CostRow.mul (mulCount true (s.getX rs))),
      (Instr.mla c sf rd rn rs rm, BitVec.ofNat 32 ((s.getX rm).toNat * (s.getX rs).toNat + (s.getX rn).toNat),
        CostRow.mla (mulCount true (s.getX rs)))] →
    conditionPassed c s.sw = true → wellFormed i = true →
    A32Completes i s { s with draws := if sf then s.draws + 1 else s.draws } [(rd, v)]
      (if sf then setFlagsA32 s.sw
        { n := some v.msb, z := some (v == 0), c := some (Config.mulFlag s.draws), v := none } else s.sw) row) ∧
  (∀ (c : Cond) (sf : Bool) (hi lo rs rm : Reg) (s : State) (i : Instr) (p : Int) (row : CostRow),
    (i, p, row) ∈ [
      (Instr.umull c sf hi lo rs rm, ((s.getX rm).toNat : Int) * (s.getX rs).toNat,
        CostRow.longMul (mulCount false (s.getX rs))),
      (Instr.umlal c sf hi lo rs rm,
        ((s.getX rm).toNat : Int) * (s.getX rs).toNat + ((s.getX hi).toNat * 2 ^ 32 + (s.getX lo).toNat),
        CostRow.longMla (mulCount false (s.getX rs))),
      (Instr.smull c sf hi lo rs rm, (s.getX rm).toInt * (s.getX rs).toInt,
        CostRow.longMul (mulCount true (s.getX rs))),
      (Instr.smlal c sf hi lo rs rm,
        (s.getX rm).toInt * (s.getX rs).toInt + ((s.getX hi).toInt * 2 ^ 32 + (s.getX lo).toNat),
        CostRow.longMla (mulCount true (s.getX rs)))] →
    conditionPassed c s.sw = true → wellFormed i = true →
    A32Completes i s { s with draws := if sf then s.draws + 2 else s.draws }
      [(lo, (BitVec.ofInt 64 p).extractLsb' 0 32), (hi, (BitVec.ofInt 64 p).extractLsb' 32 32)]
      (if sf then setFlagsA32 s.sw
        { n := some (BitVec.ofInt 64 p).msb, z := some (decide (p % 2 ^ 64 = 0)), c := some (Config.mulFlag s.draws),
          v := some (Config.mulFlag (s.draws + 1)) } else s.sw) row)

/-- MRS and MSR (R350 to R353): MRS reads all 32 bits; MSR writes the bytes its field mask selects, but never T, and faults
exactly where M[4:0] would change. -/
def Obligations.StatusTransfers : Prop :=
  ∀ (c : Cond) (rd rm : Reg) (mask : BitVec 4) (o : RotImm) (s : State), conditionPassed c s.sw = true →
    (rd ≠ 15 → A32Completes (.mrs c rd) s s [(rd, s.sw)] s.sw .mrs) ∧
    ∀ (i : Instr) (v : Word),
      (i, v) ∈ [(Instr.msrReg c mask rm, s.getX rm), (Instr.msrImm c mask o, rotImmValue o)] → wellFormed i = true →
      ((mask.getLsbD 0 = false ∨ v.extractLsb' 0 5 = s.sw.extractLsb' 0 5) →
        ∃ new : Word, A32Completes i s s [] new .msr ∧
          ∀ j, j < 32 → new.getLsbD j =
            if j ≠ 5 ∧ mask.getLsbD (j / 8) = true then v.getLsbD j else s.sw.getLsbD j) ∧
      (mask.getLsbD 0 = true ∧ v.extractLsb' 0 5 ≠ s.sw.extractLsb' 0 5 →
        exec i s = .fault (.invalidMode s.site (.mode (v.extractLsb' 0 5))))

/-! ## A32 memory -/

/-- LDR, LDRB, their T forms, LDRH, LDRSB and LDRSH, with either offset, pre- and post-indexed: each completes where its access is
routed (R360, R361, R364, R365, R368 to R371, R374, R375). -/
def Obligations.Loads : Prop :=
  ∀ (c : Cond) (pre up wb : Bool) (rn rd : Reg) (imm12 : BitVec 12) (op : ShiftImm) (imm8 : Byte) (rm : Reg),
    ∀ f ∈ ldrForms c up wb rn rd imm12 op ++ ldrbForms c up wb rn rd imm12 op ++ ldrhForms c pre up wb rn rd imm8 rm,
      f.Completes

/-- STR, STRB, their T forms and STRH, with either offset, pre- and post-indexed: each completes where its access is routed, and
every address whose byte is not one of those stored reads as before (R104, R360, R362, R366 to R369, R371, R373). -/
def Obligations.Stores : Prop :=
  ∀ (c : Cond) (pre up wb : Bool) (rn rd : Reg) (imm12 : BitVec 12) (op : ShiftImm) (imm8 : Byte) (rm : Reg),
    ∀ f ∈ strForms c up wb rn rd imm12 op ++ strbForms c up wb rn rd imm12 op ++ strhForms c pre up wb rn rd imm8 rm,
      f.Completes ∧
      ∀ s t : State, conditionPassed f.cond s.sw = true → exec f.instr s = .next t →
        OnlyCells s t (storedCells s.cfg (f.place s).1 (f.place s).2)

/-- A load or store of A32 whose access is not routed faults, with the address the core presents to the Bus (R234, R364, R366,
R542). LDM and STM fault at the first address of the block that is not routed, whichever it is, with nothing committed (R234,
R381 to R383): LDM reports the latch and the draws of the reads before it, STM those of the state before. SWP and SWPB fault as
the read (R390, R391). What the fault carries is log 7. -/
def Obligations.TransferFaults : Prop :=
  ∀ (c : Cond) (pre up wb : Bool) (rn rd : Reg) (imm12 : BitVec 12) (op : ShiftImm) (imm8 : Byte) (rm : Reg),
    (∀ f ∈ ldrForms c up wb rn rd imm12 op ++ ldrbForms c up wb rn rd imm12 op ++ ldrhForms c pre up wb rn rd imm8 rm,
      f.Faults) ∧
    (∀ f ∈ strForms c up wb rn rd imm12 op ++ strbForms c up wb rn rd imm12 op ++ strhForms c pre up wb rn rd imm8 rm,
      f.Faults) ∧
    (∀ (m : BlockMode) (list : BitVec 16) (s : State) (start : Word) (j : Nat), start = blockStart m (s.getX rn) list →
      conditionPassed c s.sw = true → j < (registersOf list).length → BlockRouted s start j →
      route s.cfg (blockAddr start j).toNat 4 = none →
      (wellFormed (ldmOf m c wb rn list) = true →
        exec (ldmOf m c wb rn list) s = .fault (.bus (blockSite s start j) (blockAddr start j) .word .read)) ∧
      (wellFormed (stmOf m c wb rn list) = true →
        exec (stmOf m c wb rn list) s = .fault (.bus s.site (blockAddr start j) .word .write))) ∧
    (∀ (s : State) (i : Instr) (k : LoadKind),
      (i, k) ∈ [(Instr.swp c rn rd rm, LoadKind.word), (Instr.swpb c rn rd rm, LoadKind.byte)] →
      conditionPassed c s.sw = true → wellFormed i = true →
      route s.cfg (k.access (s.getX rn)).1.toNat (k.access (s.getX rn)).2.bytes = none →
      exec i s = .fault (.bus s.site (k.access (s.getX rn)).1 (k.access (s.getX rn)).2 .read))

/-- What a transfer presents to the Bus and what becomes of the value read (R364, R365, R371, R374): words and half-words at the aligned
address; a misaligned word or unsigned half-word rotated right; a signed half-word at an odd address a sign-extended byte. The
registers and addresses of a block transfer of `k` registers (R183, R381): ascending registers; the first address and the new
base of each mode. -/
def Obligations.TransferAddresses : Prop :=
  (∀ a v : Word,
    (LoadKind.word.access a = (a - a % 4, .word) ∧ StoreKind.word.access a = (a - a % 4, .word)) ∧
    (LoadKind.byte.access a = (a, .byte) ∧ LoadKind.signedByte.access a = (a, .byte) ∧
      StoreKind.byte.access a = (a, .byte)) ∧
    (LoadKind.half.access a = (a - a % 2, .half) ∧ StoreKind.half.access a = (a - a % 2, .half)) ∧
    (LoadKind.signedHalf.access a = if a % 2 = 0 then (a, .half) else (a, .byte)) ∧
    (∀ j, j < 32 → (LoadKind.word.finish a v).getLsbD j = v.getLsbD ((j + 8 * (a.toNat % 4)) % 32)) ∧
    (∀ j, j < 32 → (LoadKind.half.finish a v).getLsbD j = v.getLsbD ((j + 8 * (a.toNat % 2)) % 32)) ∧
    (LoadKind.byte.finish a v = v) ∧
    ((LoadKind.signedByte.finish a v).toInt = (v.setWidth 8).toInt) ∧
    ((LoadKind.signedHalf.finish a v).toInt = if a % 2 = 0 then (v.setWidth 16).toInt else (v.setWidth 8).toInt)) ∧
  (∀ (list : BitVec 16) (base : Word) (k : Nat), k = (registersOf list).length →
    (∀ r : Reg, r ∈ registersOf list ↔ list.getLsbD r.toNat = true) ∧
    ((registersOf list).Pairwise (fun a b => a.toNat < b.toNat)) ∧
    (∀ (mode : BlockMode) (start new : Word),
      (mode, start, new) ∈ [
        (BlockMode.ia, base, base + BitVec.ofNat 32 (4 * k)),
        (BlockMode.ib, base + 4, base + BitVec.ofNat 32 (4 * k)),
        (BlockMode.da, base - BitVec.ofNat 32 (4 * k) + 4, base - BitVec.ofNat 32 (4 * k)),
        (BlockMode.db, base - BitVec.ofNat 32 (4 * k), base - BitVec.ofNat 32 (4 * k))] →
      blockStart mode base list = start - start % 4 ∧ blockNewBase mode base list = new))

/-- LDM in its four modes (R381, R382): where every word is routed it completes; each register of the list takes the word at its
address, the base is written back before them where W = 1, R15 in the list is a branch, and no byte of memory changes. The draws
are log 5. -/
def Obligations.LoadMultiple : Prop :=
  ∀ (m : BlockMode) (c : Cond) (wb : Bool) (rn : Reg) (list : BitVec 16) (s : State),
    conditionPassed c s.sw = true → wellFormed (ldmOf m c wb rn list) = true →
    BlockRouted s (blockStart m (s.getX rn) list) (registersOf list).length →
    A32Completes (ldmOf m c wb rn list) s
      { s with
        openBus := blockValue s (blockStart m (s.getX rn) list) ((registersOf list).length - 1)
        draws := s.draws + blockDraws s (blockStart m (s.getX rn) list) (registersOf list).length }
      ((if wb then [(rn, blockNewBase m (s.getX rn) list)] else []) ++ blockLoads s (blockStart m (s.getX rn) list) list)
      s.sw (.ldm (registersOf list).length (list.getLsbD 15))

/-- STM in its four modes (R362, R381, R383): where every word is routed it completes; the registers of the list, as they stood
before, are stored in ascending order, R15 as its address plus STORED_PC_OFFSET; the base is written back where W = 1; and every
address outside the words stored reads as before. -/
def Obligations.StoreMultiple : Prop :=
  ∀ (m : BlockMode) (c : Cond) (wb : Bool) (rn : Reg) (list : BitVec 16) (s : State),
    conditionPassed c s.sw = true → wellFormed (stmOf m c wb rn list) = true →
    BlockRouted s (blockStart m (s.getX rn) list) (registersOf list).length →
    A32Completes (stmOf m c wb rn list) s
      (blockStores s (blockStart m (s.getX rn) list) 0
        ((registersOf list).map (fun r => if r = 15 then s.getX 15 + s.cfg.storedPcOffset else s.getX r)))
      (if wb then [(rn, blockNewBase m (s.getX rn) list)] else []) s.sw (.stm (registersOf list).length) ∧
    ∀ t, exec (stmOf m c wb rn list) s = .next t →
      OnlyCells s t (storedManyCells s.cfg (blockStart m (s.getX rn) list) (registersOf list).length)

/-- SWP and SWPB (R390, R391): where the place is routed they complete: the datum as a load of that width gives it to Rd, Rm stored
at the same place, and every other address reads as before. -/
def Obligations.Swaps : Prop :=
  ∀ (c : Cond) (rn rd rm : Reg) (s : State) (i : Instr) (k : LoadKind),
    (i, k) ∈ [(Instr.swp c rn rd rm, LoadKind.word), (Instr.swpb c rn rd rm, LoadKind.byte)] →
    conditionPassed c s.sw = true → wellFormed i = true →
    ∀ (r : Region) (o : Nat),
      route s.cfg (k.access (s.getX rn)).1.toNat (k.access (s.getX rn)).2.bytes = some (r, o) →
      A32Completes i s
        ((s.afterRead r o (k.access (s.getX rn)).2).writeBytes r o
          (bytesOf (k.access (s.getX rn)).2.bytes (s.getX rm)))
        [(rd, k.finish (s.getX rn) (s.readValue r o (k.access (s.getX rn)).2))] s.sw .swap ∧
      ∀ t, exec i s = .next t → OnlyCells s t (storedCells s.cfg (k.access (s.getX rn)).1 (k.access (s.getX rn)).2)

/-- The Bus. Routing (R113): the region and local offset of the first entry, in table order, that contains the address, where the
access does not run past the end of that entry, and nothing otherwise. A routed read (R103, R120, R129) answers the bytes of the place
in little-endian order, those of a buffer as they stand, those of an I/O block one fresh draw each in ascending order (log 5); the
latch takes the value. A routed write (R104, R121, R122, R130): to a writable buffer it reads back at the same place and changes
no other cell (log 4) and no other field; to a read-only buffer it is a no-op; to an I/O block it is one event a byte, in
ascending order (the list has the newest first, log 6), each with its binding (R128, log 16), and changes nothing else. Neither is
performed where routing fails. -/
def Obligations.BusReadBack : Prop :=
  (∀ (cfg : Config) (a n : Nat) (r : Region) (o : Nat), route cfg a n = some (r, o) ↔
    ∃ before e after, cfg.map = before ++ e :: after ∧ (∀ d ∈ before, ¬(d.start ≤ a ∧ a ≤ d.last)) ∧
      e.start ≤ a ∧ a ≤ e.last ∧ a + n - 1 ≤ e.last ∧ r = e.region ∧ o = a - e.start + e.localBase) ∧
  (∀ (s : State) (a : Word) (w : Width) (r : Region) (o : Nat), route s.cfg a.toNat w.bytes = some (r, o) →
    s.load a w = .ok (s.readValue r o w, s.afterRead r o w) ∧
    (s.readValue r o w).toNat < 2 ^ (8 * w.bytes) ∧
    (w = .byte → s.readValue r o w = (byteRead s r o).setWidth 32) ∧
    (∀ ro, r.kind = .buffer ro →
      s.afterRead r o w = { s with openBus := s.readValue r o w } ∧
      ∀ j, j < w.bytes → (s.readValue r o w).toNat / 2 ^ (8 * j) % 2 ^ 8 = (Memory.get s.mem (r.base + (o + j))).toNat) ∧
    (∀ b, r.kind = .io b →
      s.afterRead r o w = { s with openBus := s.readValue r o w, draws := s.draws + w.bytes } ∧
      ∀ j, j < w.bytes → (s.readValue r o w).toNat / 2 ^ (8 * j) % 2 ^ 8 = (Config.ioRead (s.draws + j) (o + j)).toNat)) ∧
  (∀ (s : State) (a v : Word) (w : Width) (r : Region) (o : Nat), Memory.wf s.mem = true →
    route s.cfg a.toNat w.bytes = some (r, o) →
    ∃ t, s.store a w v = .ok t ∧ t = s.writeBytes r o (bytesOf w.bytes v) ∧
      (w = .byte → t = s.writeByte r o (v.setWidth 8)) ∧
      (r.kind = .buffer true → t = s) ∧
      (r.kind = .buffer false → t = { s with mem := t.mem } ∧ Memory.wf t.mem = true ∧
        (t.readValue r o w).toNat = v.toNat % 2 ^ (8 * w.bytes) ∧
        (∀ j, j < w.bytes → (Memory.get t.mem (r.base + (o + j))).toNat = v.toNat / 2 ^ (8 * j) % 2 ^ 8) ∧
        ∀ c, (∀ j, j < w.bytes → c ≠ r.base + (o + j)) → Memory.get t.mem c = Memory.get s.mem c) ∧
      (∀ b, r.kind = .io b → t = { s with
        events := ((List.range w.bytes).map (fun j =>
          Event.ioWrite (o + j) ((v >>> (8 * j)).setWidth 8) (decide ((b, o + j) ∈ s.cfg.bindings)))).reverse
            ++ s.events })) ∧
  (∀ (s : State) (a v : Word) (w : Width), route s.cfg a.toNat w.bytes = none →
    s.load a w = .error (.bus s.site a w .read) ∧ s.store a w v = .error (.bus s.site a w .write))

/-! ## N8 loads, stores and the stack -/

/-- LD r, r'; LD r, d8 and LD rr, d16; LD SP, HL (R401, R404, R420, R422): their encodings and lengths, and their effect on every
state: the one register changes. -/
def Obligations.RegisterLoads : Prop :=
  (∀ p ∈ ldRegRegForms, encode p.1 = [0x40 + 8 * p.2.1.code + p.2.2.code] ∧
    ∀ s, exec p.1 s = .next (n8Ends s (s.n8.set p.2.1 (s.get8 p.2.2)) s.sp (s.pc + 1) (s.cfg.cost .ldRR))) ∧
  (∀ p ∈ ldRegByteForms, ∀ d, encode (p.1 d) = [0x06 + 8 * p.2.code, d] ∧
    ∀ s, exec (p.1 d) s = .next (n8Ends s (s.n8.set p.2 d) s.sp (s.pc + 2) (s.cfg.cost .ldRD8))) ∧
  (∀ p ∈ ldReg16Forms, ∀ d, encode (p.1 d) = [0x01 + 16 * p.2.code, d.setWidth 8, (d >>> 8).setWidth 8] ∧
    ∀ s, exec (p.1 d) s = .next (n8Ends s (s.n8.setPair p.2 d) s.sp (s.pc + 3) (s.cfg.cost .ldR16))) ∧
  (∀ d, encode (.ld_sp_d16 d) = [0x31, d.setWidth 8, (d >>> 8).setWidth 8] ∧
    ∀ s, exec (.ld_sp_d16 d) s = .next (n8Ends s s.n8 d (s.pc + 3) (s.cfg.cost .ldR16))) ∧
  (encode .ld_sp_hl = [0xF9] ∧
    ∀ s, exec .ld_sp_hl s = .next (n8Ends s s.n8 (s.getPair .hl) (s.pc + 1) (s.cfg.cost .ldSPHL)))

/-- The byte loads of N8 (R402, R406, R407, R410, R412, R414, R416, R417), with their encodings: where the address is routed they
complete, with the byte read in the register and, for (HL+) and (HL-), HL stepped; where it is not they fault. -/
def Obligations.MemoryLoads : Prop :=
  (∀ p ∈ ldRegHlForms, encode p.1 = [0x46 + 8 * p.2.code]) ∧
  (∀ (a8 : Byte) (a16 : Half),
    encode .ld_a_mbc = [0x0A] ∧ encode .ld_a_mde = [0x1A] ∧
    encode (.ld_a_ma16 a16) = [0xFA, a16.setWidth 8, (a16 >>> 8).setWidth 8] ∧ encode (.ldh_a_ma8 a8) = [0xF0, a8] ∧
    encode .ld_a_mc = [0xF2] ∧ encode .ld_a_mhli = [0x2A] ∧ encode .ld_a_mhld = [0x3A]) ∧
  ∀ (a8 : Byte) (a16 : Half) (s : State) (i : Instr) (a pc : Half) (n8 : Byte → N8File) (row : CostRow),
    (i, a, n8, pc, row) ∈
      ldRegHlForms.map (fun p => (p.1, s.getPair .hl, s.n8.set p.2, s.pc + 1, CostRow.ldRHL)) ++
      (loadAForms a8 a16).map (fun p => (p.1, p.2.1 s, s.n8.set .a, s.pc + BitVec.ofNat 16 p.2.2.1, p.2.2.2)) ++
      [(Instr.ld_a_mhli, s.getPair .hl, fun v => (s.n8.set .a v).setPair .hl (s.getPair .hl + 1), s.pc + 1,
        CostRow.ldAStep),
       (Instr.ld_a_mhld, s.getPair .hl, fun v => (s.n8.set .a v).setPair .hl (s.getPair .hl - 1), s.pc + 1,
        CostRow.ldAStep)] →
    (∀ r o, Routes8 s a r o →
      exec i s = .next (n8Ends (s.afterRead r o .byte) (n8 (byteRead s r o)) s.sp pc (s.cfg.cost row))) ∧
    (route s.cfg a.toNat 1 = none → exec i s = .fault (.bus s.site (a.setWidth 32) .byte .read))

/-- The byte stores of N8 (R403, R405, R408, R409, R411, R413, R415, R418, R419), with their encodings: where the address is
routed they complete, with the byte stored there, every other address as before, no flag changed and, for (HL+) and (HL-), HL
stepped; where it is not they fault. -/
def Obligations.MemoryStores : Prop :=
  (∀ p ∈ ldHlRegForms, encode p.1 = [0x70 + p.2.code]) ∧
  (∀ (a8 d8 : Byte) (a16 : Half),
    encode (.ld_mhl_d8 d8) = [0x36, d8] ∧ encode .ld_mbc_a = [0x02] ∧ encode .ld_mde_a = [0x12] ∧
    encode (.ld_ma16_a a16) = [0xEA, a16.setWidth 8, (a16 >>> 8).setWidth 8] ∧ encode (.ldh_ma8_a a8) = [0xE0, a8] ∧
    encode .ld_mc_a = [0xE2] ∧ encode .ld_mhli_a = [0x22] ∧ encode .ld_mhld_a = [0x32]) ∧
  ∀ (a8 d8 : Byte) (a16 : Half) (s : State) (i : Instr) (a pc : Half) (v : Byte) (n8 : N8File) (row : CostRow),
    (i, a, v, n8, pc, row) ∈
      ldHlRegForms.map (fun p => (p.1, s.getPair .hl, s.get8 p.2, s.n8, s.pc + 1, CostRow.ldRHL)) ++
      (storeAForms a8 a16).map
        (fun p => (p.1, p.2.1 s, s.n8.a, s.n8, s.pc + BitVec.ofNat 16 p.2.2.1, p.2.2.2)) ++
      [(Instr.ld_mhl_d8 d8, s.getPair .hl, d8, s.n8, s.pc + 2, CostRow.ldHLD8),
       (Instr.ld_mhli_a, s.getPair .hl, s.n8.a, s.n8.setPair .hl (s.getPair .hl + 1), s.pc + 1, CostRow.ldAStep),
       (Instr.ld_mhld_a, s.getPair .hl, s.n8.a, s.n8.setPair .hl (s.getPair .hl - 1), s.pc + 1, CostRow.ldAStep)] →
    (∀ r o, Routes8 s a r o →
      exec i s = .next (n8Ends (s.writeByte r o v) n8 s.sp pc (s.cfg.cost row)) ∧
      OnlyCells s (s.writeByte r o v) (storedCells s.cfg (a.setWidth 32) .byte)) ∧
    (route s.cfg a.toNat 1 = none → exec i s = .fault (.bus s.site (a.setWidth 32) .byte .write))

/-- PUSH and POP (R423 to R426), with their encodings: PUSH stores the high byte at SP - 1 and the low byte at SP - 2 and leaves SP
there; POP reads the low byte at SP and the high byte at SP + 1; POP AF writes all of F. LD (a16), SP (R421) stores the low byte of
SP at a16 and the high byte at the next address, wrapping. No other register and no other flag changes. -/
def Obligations.StackTransfers : Prop :=
  (∀ p ∈ pushForms, encode p.1 = [0xC5 + 16 * p.2.code] ∧
    ∀ (s : State) (r r' : Region) (o o' : Nat), Routes8 s (s.sp - 1) r o → Routes8 s (s.sp - 2) r' o' →
      exec p.1 s = .next (n8Ends ((s.writeByte r o (s.get8 (pairHi p.2))).writeByte r' o' (s.get8 (pairLo p.2))) s.n8
        (s.sp - 2) (s.pc + 1) (s.cfg.cost .push))) ∧
  (∀ p ∈ popForms, encode p.1 = [0xC1 + 16 * p.2.code] ∧
    ∀ (s : State) (r r' : Region) (o o' : Nat), Routes8 s s.sp r o → Routes8 s (s.sp + 1) r' o' →
      exec p.1 s = .next (n8Ends ((s.afterRead r o .byte).afterRead r' o' .byte)
        (s.n8.setPair p.2 (byteRead (s.afterRead r o .byte) r' o' ++ byteRead s r o))
        (s.sp + 2) (s.pc + 1) (s.cfg.cost .pop))) ∧
  (∀ a : Half, encode (.ld_ma16_sp a) = [0x08, a.setWidth 8, (a >>> 8).setWidth 8]) ∧
  (∀ (a16 : Half) (s : State) (r r' : Region) (o o' : Nat), Routes8 s a16 r o → Routes8 s (a16 + 1) r' o' →
    exec (.ld_ma16_sp a16) s =
      .next (n8Ends ((s.writeByte r o (s.sp.setWidth 8)).writeByte r' o' ((s.sp >>> 8).setWidth 8)) s.n8 s.sp (s.pc + 3)
        (s.cfg.cost .ldA16SP)) ∧
    OnlyCells s ((s.writeByte r o (s.sp.setWidth 8)).writeByte r' o' ((s.sp >>> 8).setWidth 8))
      (storedCells s.cfg (a16.setWidth 32) .byte ++ storedCells s.cfg ((a16 + 1).setWidth 32) .byte))

/-- An N8 access that is not routed faults before anything changes (R234). On the stack (R423 to R426, R518 to R522) the high byte
at SP - 1 is written first, the low byte at SP is read first, in CALL cc and RET cc where the condition passes. LD (a16), SP (R421)
writes its low byte first. The instructions with the operand (HL) (R238, R440, R450, R452, R490, R499 to R501) fault as their one
read. What the fault carries is log 7. -/
def Obligations.StackFaults : Prop :=
  (∀ (a16 : Half) (s : State),
    ∀ i ∈ pushForms.map Prod.fst ++ [Instr.call_a16 a16] ++ rstForms.map Prod.fst
        ++ (callCcForms.filter (fun p => ccPassed p.2 s.n8.f)).map (fun p => p.1 a16),
      (route s.cfg (s.sp - 1).toNat 1 = none →
        exec i s = .fault (.bus s.site ((s.sp - 1).setWidth 32) .byte .write)) ∧
      ((route s.cfg (s.sp - 1).toNat 1).isSome → route s.cfg (s.sp - 2).toNat 1 = none →
        exec i s = .fault (.bus s.site ((s.sp - 2).setWidth 32) .byte .write))) ∧
  (∀ (s : State), ∀ i ∈ popForms.map Prod.fst ++ [Instr.ret]
        ++ (retCcForms.filter (fun p => ccPassed p.2 s.n8.f)).map Prod.fst,
      (route s.cfg s.sp.toNat 1 = none → exec i s = .fault (.bus s.site (s.sp.setWidth 32) .byte .read)) ∧
      (∀ r o, Routes8 s s.sp r o → route s.cfg (s.sp + 1).toNat 1 = none →
        exec i s = .fault (.bus (s.afterRead r o .byte).site ((s.sp + 1).setWidth 32) .byte .read))) ∧
  (∀ (a16 : Half) (s : State),
      (route s.cfg a16.toNat 1 = none →
        exec (.ld_ma16_sp a16) s = .fault (.bus s.site (a16.setWidth 32) .byte .write)) ∧
      ((route s.cfg a16.toNat 1).isSome → route s.cfg (a16 + 1).toNat 1 = none →
        exec (.ld_ma16_sp a16) s = .fault (.bus s.site ((a16 + 1).setWidth 32) .byte .write))) ∧
  (∀ (s : State), ∀ i ∈ aluHlForms.map Prod.fst ++ [Instr.inc_mhl, .dec_mhl] ++ cbRotHlForms.map Prod.fst
        ++ bitHlForms.map Prod.fst ++ resHlForms.map Prod.fst ++ setHlForms.map Prod.fst,
      route s.cfg (s.getPair .hl).toNat 1 = none →
      exec i s = .fault (.bus s.site ((s.getPair .hl).setWidth 32) .byte .read))

/-! ## N8 arithmetic and bits -/

/-- The eight ALU operations with a register, (HL) or d8 (R440 to R448), with their encodings: the result to A but for CP, the
flags to F, nothing else; (HL) where it is routed. -/
def Obligations.AluInstructions : Prop :=
  (∀ p ∈ aluRegForms, encode p.1 = [0x80 + 8 * p.2.1.code + p.2.2.code] ∧
    ∀ s : State, exec p.1 s = .next (n8Ends s
      ((s.n8.set .a (aluCompute p.2.1 s.n8.a (s.get8 p.2.2) (fC s.n8.f)).value).flags
        (aluCompute p.2.1 s.n8.a (s.get8 p.2.2) (fC s.n8.f)).flags) s.sp (s.pc + 1) (s.cfg.cost .aluR))) ∧
  (∀ p ∈ aluHlForms, encode p.1 = [0x86 + 8 * p.2.code] ∧
    ∀ (s : State) (r : Region) (o : Nat), Routes8 s (s.getPair .hl) r o →
      exec p.1 s = .next (n8Ends (s.afterRead r o .byte)
        ((s.n8.set .a (aluCompute p.2 s.n8.a (byteRead s r o) (fC s.n8.f)).value).flags
          (aluCompute p.2 s.n8.a (byteRead s r o) (fC s.n8.f)).flags) s.sp (s.pc + 1) (s.cfg.cost .aluHL))) ∧
  (∀ p ∈ aluByteForms, ∀ d, encode (p.1 d) = [0xC6 + 8 * p.2.code, d] ∧
    ∀ s : State, exec (p.1 d) s = .next (n8Ends s
      ((s.n8.set .a (aluCompute p.2 s.n8.a d (fC s.n8.f)).value).flags
        (aluCompute p.2 s.n8.a d (fC s.n8.f)).flags) s.sp (s.pc + 2) (s.cfg.cost .aluD8)))

/-- The results and flags of the ALU operations (R441 to R448), in integers: Z of the 8-bit result; H and C from the
unmasked sums and differences of the low nibbles and of the bytes, with the carry of ADC and SBC. -/
def Obligations.AluResults : Prop :=
  ∀ (a v : Byte) (c : Bool),
    let lo := a.toNat % 16
    let vo := v.toNat % 16
    (∀ (op : AluOp) (k : Nat), (op, k) ∈ [(AluOp.add, 0), (AluOp.adc, c.toNat)] →
      (aluCompute op a v c).value.toNat = (a.toNat + v.toNat + k) % 256 ∧
      (aluCompute op a v c).flags =
        { z := some (decide ((a.toNat + v.toNat + k) % 256 = 0)), n := some false,
          h := some (decide (15 < lo + vo + k)), c := some (decide (255 < a.toNat + v.toNat + k)) }) ∧
    (∀ (op : AluOp) (k : Nat), (op, k) ∈ [(AluOp.sub, 0), (AluOp.sbc, c.toNat), (AluOp.cp, 0)] →
      ((aluCompute op a v c).value.toNat = if op = .cp then a.toNat else (a.toNat + 512 - v.toNat - k) % 256) ∧
      (aluCompute op a v c).flags =
        { z := some (decide ((a.toNat + 512 - v.toNat - k) % 256 = 0)), n := some true,
          h := some (decide (lo < vo + k)), c := some (decide (a.toNat < v.toNat + k)) }) ∧
    (∀ (op : AluOp) (r : Byte) (h : Bool),
      (op, r, h) ∈ [(AluOp.and, a &&& v, true), (AluOp.xor, a ^^^ v, false), (AluOp.or, a ||| v, false)] →
      aluCompute op a v c = ⟨r, { z := some (decide (r = 0)), n := some false, h := some h, c := some false }⟩)

/-- INC r and DEC r (R449, R451), with their encodings: the register plus or minus 1 modulo 256, Z and H of it, N, and C unchanged.
INC (HL) and DEC (HL) (R450, R452) do the same to the byte at HL, read once and written once. -/
def Obligations.IncDec : Prop :=
  (∀ p ∈ incForms, encode p.1 = [0x04 + 8 * p.2.code] ∧
    ∀ s : State, exec p.1 s = .next (n8Ends s
      ((s.n8.set p.2 (s.get8 p.2 + 1)).flags
        { z := some (decide (s.get8 p.2 + 1 = 0)), n := some false, h := some (decide ((s.get8 p.2).toNat % 16 = 15)) })
      s.sp (s.pc + 1) (s.cfg.cost .incDecR))) ∧
  (∀ p ∈ decForms, encode p.1 = [0x05 + 8 * p.2.code] ∧
    ∀ s : State, exec p.1 s = .next (n8Ends s
      ((s.n8.set p.2 (s.get8 p.2 - 1)).flags
        { z := some (decide (s.get8 p.2 - 1 = 0)), n := some true, h := some (decide ((s.get8 p.2).toNat % 16 = 0)) })
      s.sp (s.pc + 1) (s.cfg.cost .incDecR))) ∧
  (encode .inc_mhl = [0x34] ∧ encode .dec_mhl = [0x35] ∧
    ∀ (s : State) (r : Region) (o : Nat), Routes8 s (s.getPair .hl) r o →
      exec .inc_mhl s = .next (n8Ends ((s.afterRead r o .byte).writeByte r o (byteRead s r o + 1))
        (s.n8.flags { z := some (decide (byteRead s r o + 1 = 0)), n := some false,
                      h := some (decide ((byteRead s r o).toNat % 16 = 15)) })
        s.sp (s.pc + 1) (s.cfg.cost .incDecHL)) ∧
      exec .dec_mhl s = .next (n8Ends ((s.afterRead r o .byte).writeByte r o (byteRead s r o - 1))
        (s.n8.flags { z := some (decide (byteRead s r o - 1 = 0)), n := some true,
                      h := some (decide ((byteRead s r o).toNat % 16 = 0)) })
        s.sp (s.pc + 1) (s.cfg.cost .incDecHL)))

/-- INC rr and DEC rr (R453, R454), with their encodings: the pair or SP plus or minus 1 modulo 2^16, and no flag. -/
def Obligations.Increments16 : Prop :=
  (∀ p ∈ inc16Forms, encode p.1 = [0x03 + 16 * p.2.code] ∧
    ∀ s : State, exec p.1 s =
      .next (n8Ends s (s.n8.setPair p.2 (s.getPair p.2 + 1)) s.sp (s.pc + 1) (s.cfg.cost .incDecR16))) ∧
  (∀ p ∈ dec16Forms, encode p.1 = [0x0B + 16 * p.2.code] ∧
    ∀ s : State, exec p.1 s =
      .next (n8Ends s (s.n8.setPair p.2 (s.getPair p.2 - 1)) s.sp (s.pc + 1) (s.cfg.cost .incDecR16))) ∧
  (encode .inc_sp = [0x33] ∧ encode .dec_sp = [0x3B] ∧
    ∀ s : State, exec .inc_sp s = .next (n8Ends s s.n8 (s.sp + 1) (s.pc + 1) (s.cfg.cost .incDecR16)) ∧
      exec .dec_sp s = .next (n8Ends s s.n8 (s.sp - 1) (s.pc + 1) (s.cfg.cost .incDecR16)))

/-- ADD HL, rr (R455), ADD SP, e8 and LD HL, SP+e8 (R456, R457), with their encodings: the sum modulo 2^16; H and C of ADD HL from
bits 11 and 15; those of the other two from the unsigned addition of the low byte (the spec's own inference). -/
def Obligations.Additions16 : Prop :=
  (∀ p ∈ addHlForms, encode p.1 = [0x09 + 16 * p.2.code] ∧
    ∀ s : State, exec p.1 s = .next (n8Ends s
      ((s.n8.setPair .hl (s.getPair .hl + s.get16 p.2)).flags
        { n := some false,
          h := some (decide (0xFFF < (s.getPair .hl).toNat % 0x1000 + (s.get16 p.2).toNat % 0x1000)),
          c := some (decide (0xFFFF < (s.getPair .hl).toNat + (s.get16 p.2).toNat)) })
      s.sp (s.pc + 1) (s.cfg.cost .addHL))) ∧
  (∀ (e : Byte) (s : State) (f : FlagsN8),
    f = { z := some false, n := some false, h := some (decide (0xF < s.sp.toNat % 0x10 + e.toNat % 0x10)),
          c := some (decide (0xFF < s.sp.toNat % 0x100 + e.toNat)) } →
    encode (.add_sp_e8 e) = [0xE8, e] ∧ encode (.ld_hl_sp_e8 e) = [0xF8, e] ∧
    exec (.add_sp_e8 e) s =
      .next (n8Ends s (s.n8.flags f) (s.sp + BitVec.ofInt 16 e.toInt) (s.pc + 2) (s.cfg.cost .addSP)) ∧
    exec (.ld_hl_sp_e8 e) s =
      .next (n8Ends s ((s.n8.setPair .hl (s.sp + BitVec.ofInt 16 e.toInt)).flags f) s.sp (s.pc + 2)
        (s.cfg.cost .ldHLSP)))

/-- DAA, CPL, SCF, CCF and the accumulator rotates (R458 to R465), with their encodings: their effect on A and F, and on nothing
else. -/
def Obligations.Adjustments : Prop :=
  (encode .daa = [0x27] ∧ encode .cpl = [0x2F] ∧ encode .scf = [0x37] ∧ encode .ccf = [0x3F] ∧
    encode .rlca = [0x07] ∧ encode .rrca = [0x0F] ∧ encode .rla = [0x17] ∧ encode .rra = [0x1F]) ∧
  ∀ (s : State) (i : Instr) (a : Byte) (f : FlagsN8) (row : CostRow),
    let c := s.n8.f.getLsbD 4
    let low := s.n8.f.getLsbD 5 || (!s.n8.f.getLsbD 6 && decide (9 < s.n8.a.toNat % 16))
    let high := c || (!s.n8.f.getLsbD 6 && decide (0x99 < s.n8.a.toNat))
    let u : Byte := (if low then 0x06 else 0x00) + (if high then 0x60 else 0x00)
    let adjusted : Byte := if s.n8.f.getLsbD 6 then s.n8.a - u else s.n8.a + u
    (i, a, f, row) ∈ [
      (Instr.daa, adjusted, ({ z := some (decide (adjusted = 0)), h := some false, c := some high } : FlagsN8),
        CostRow.adjust),
      (Instr.cpl, 255 - s.n8.a, { n := some true, h := some true }, CostRow.adjust),
      (Instr.scf, s.n8.a, { n := some false, h := some false, c := some true }, CostRow.adjust),
      (Instr.ccf, s.n8.a, { n := some false, h := some false, c := some (!c) }, CostRow.adjust),
      (Instr.rlca, s.n8.a.rotateLeft 1,
        { z := some false, n := some false, h := some false, c := some (s.n8.a.getLsbD 7) }, CostRow.rotA),
      (Instr.rrca, s.n8.a.rotateRight 1,
        { z := some false, n := some false, h := some false, c := some (s.n8.a.getLsbD 0) }, CostRow.rotA),
      (Instr.rla, BitVec.ofNat 8 (2 * s.n8.a.toNat + c.toNat),
        { z := some false, n := some false, h := some false, c := some (s.n8.a.getLsbD 7) }, CostRow.rotA),
      (Instr.rra, BitVec.ofNat 8 (s.n8.a.toNat / 2 + 128 * c.toNat),
        { z := some false, n := some false, h := some false, c := some (s.n8.a.getLsbD 0) }, CostRow.rotA)] →
    exec i s = .next (n8Ends s ((s.n8.set .a a).flags f) s.sp (s.pc + 1) (s.cfg.cost row))

/-- The CB rotates, shifts and SWAP (R490 to R498), with their encodings, of a register and of the byte at HL, read once and
written once: Z of the result, N and H cleared, C the bit shifted out. -/
def Obligations.CbRotates : Prop :=
  (∀ p ∈ cbRotForms, encode p.1 = [0xCB, 8 * p.2.1.code + p.2.2.code] ∧
    ∀ (s : State) (x : Byte × Bool), x = rotCompute p.2.1 (s.get8 p.2.2) (fC s.n8.f) →
      exec p.1 s = .next (n8Ends s ((s.n8.set p.2.2 x.1).flags
        { z := some (decide (x.1 = 0)), n := some false, h := some false, c := some x.2 })
        s.sp (s.pc + 2) (s.cfg.cost .cbR))) ∧
  (∀ p ∈ cbRotHlForms, encode p.1 = [0xCB, 8 * p.2.code + 6] ∧
    ∀ (s : State) (r : Region) (o : Nat) (x : Byte × Bool), Routes8 s (s.getPair .hl) r o →
      x = rotCompute p.2 (byteRead s r o) (fC s.n8.f) →
      exec p.1 s = .next (n8Ends ((s.afterRead r o .byte).writeByte r o x.1)
        (s.n8.flags { z := some (decide (x.1 = 0)), n := some false, h := some false, c := some x.2 })
        s.sp (s.pc + 2) (s.cfg.cost .cbHL)))

/-- What the rotates and shifts compute (R491 to R498), in numbers: the result and the bit shifted out. -/
def Obligations.RotateResults : Prop :=
  ∀ (v : Byte) (c : Bool) (op : RotOp) (r : Nat) (out : Bool),
    (op, r, out) ∈ [
      (RotOp.rlc, 2 * v.toNat % 256 + v.toNat / 128, v.getLsbD 7),
      (RotOp.rrc, v.toNat / 2 + 128 * (v.toNat % 2), v.getLsbD 0),
      (RotOp.rl, 2 * v.toNat % 256 + c.toNat, v.getLsbD 7),
      (RotOp.rr, v.toNat / 2 + 128 * c.toNat, v.getLsbD 0),
      (RotOp.sla, 2 * v.toNat % 256, v.getLsbD 7),
      (RotOp.sra, v.toNat / 2 + 128 * (v.toNat / 128), v.getLsbD 0),
      (RotOp.swap, 16 * (v.toNat % 16) + v.toNat / 16, false),
      (RotOp.srl, v.toNat / 2, v.getLsbD 0)] →
    (rotCompute op v c).1.toNat = r ∧ (rotCompute op v c).2 = out

/-- BIT, RES and SET (R499 to R501), with their encodings: BIT reads and sets Z from the bit, with N = 0 and H = 1; RES and
SET change the one bit of a register or of the byte at HL, and no flag. -/
def Obligations.CbBits : Prop :=
  (∀ p ∈ bitForms, encode p.1 = [0xCB, 0x40 + BitVec.ofNat 8 (8 * p.2.1) + p.2.2.code] ∧
    ∀ s : State, exec p.1 s = .next (n8Ends s
      (s.n8.flags { z := some (!(s.get8 p.2.2).getLsbD p.2.1), n := some false, h := some true })
      s.sp (s.pc + 2) (s.cfg.cost .bitR))) ∧
  (∀ p ∈ bitHlForms, encode p.1 = [0xCB, 0x46 + BitVec.ofNat 8 (8 * p.2)] ∧
    ∀ (s : State) (r : Region) (o : Nat), Routes8 s (s.getPair .hl) r o →
      exec p.1 s = .next (n8Ends (s.afterRead r o .byte)
        (s.n8.flags { z := some (!(byteRead s r o).getLsbD p.2), n := some false, h := some true })
        s.sp (s.pc + 2) (s.cfg.cost .bitHL))) ∧
  (∀ p ∈ resForms, encode p.1 = [0xCB, 0x80 + BitVec.ofNat 8 (8 * p.2.1) + p.2.2.code] ∧
    ∀ s : State, exec p.1 s = .next (n8Ends s (s.n8.set p.2.2 (s.get8 p.2.2 &&& ~~~(1#8 <<< p.2.1)))
      s.sp (s.pc + 2) (s.cfg.cost .cbR))) ∧
  (∀ p ∈ resHlForms, encode p.1 = [0xCB, 0x86 + BitVec.ofNat 8 (8 * p.2)] ∧
    ∀ (s : State) (r : Region) (o : Nat), Routes8 s (s.getPair .hl) r o →
      exec p.1 s = .next (n8Ends ((s.afterRead r o .byte).writeByte r o (byteRead s r o &&& ~~~(1#8 <<< p.2)))
        s.n8 s.sp (s.pc + 2) (s.cfg.cost .cbHL))) ∧
  (∀ p ∈ setForms, encode p.1 = [0xCB, 0xC0 + BitVec.ofNat 8 (8 * p.2.1) + p.2.2.code] ∧
    ∀ s : State, exec p.1 s = .next (n8Ends s (s.n8.set p.2.2 (s.get8 p.2.2 ||| 1#8 <<< p.2.1))
      s.sp (s.pc + 2) (s.cfg.cost .cbR))) ∧
  (∀ p ∈ setHlForms, encode p.1 = [0xCB, 0xC6 + BitVec.ofNat 8 (8 * p.2)] ∧
    ∀ (s : State) (r : Region) (o : Nat), Routes8 s (s.getPair .hl) r o →
      exec p.1 s = .next (n8Ends ((s.afterRead r o .byte).writeByte r o (byteRead s r o ||| 1#8 <<< p.2))
        s.n8 s.sp (s.pc + 2) (s.cfg.cost .cbHL)))

/-- The read-modify-writes of (HL) and the stack writes leave every address outside the bytes they store as it was (R104, R238,
R423). -/
def Obligations.N8StoreFrames : Prop :=
  ∀ (a16 : Half) (s t : State),
    (∀ i ∈ [Instr.inc_mhl, .dec_mhl] ++ cbRotHlForms.map Prod.fst ++ resHlForms.map Prod.fst ++ setHlForms.map Prod.fst,
      exec i s = .next t → OnlyCells s t (storedCells s.cfg ((s.getPair .hl).setWidth 32) .byte)) ∧
    (∀ i ∈ pushForms.map Prod.fst ++ [Instr.call_a16 a16] ++ callCcForms.map (fun p => p.1 a16) ++ rstForms.map Prod.fst,
      exec i s = .next t →
        OnlyCells s t (storedCells s.cfg ((s.sp - 1).setWidth 32) .byte
          ++ storedCells s.cfg ((s.sp - 2).setWidth 32) .byte))

/-! ## N8 control flow -/

/-- NOP and the jumps (R511, R513, R514, R515, R517), with their encodings: only PC changes; a conditional jump whose condition
fails goes past itself. -/
def Obligations.Jumps : Prop :=
  (encode .nop = [0x00] ∧ encode .jp_hl = [0xE9] ∧
    (∀ a : Half, encode (.jp_a16 a) = [0xC3, a.setWidth 8, (a >>> 8).setWidth 8]) ∧
    (∀ p ∈ jpCcForms, ∀ a : Half, encode (p.1 a) = [0xC2 + 8 * p.2.code, a.setWidth 8, (a >>> 8).setWidth 8]) ∧
    (∀ p ∈ jrCcForms, ∀ e : Byte, encode (p.1 e) = [0x20 + 8 * p.2.code, e])) ∧
  ∀ (s : State) (a : Half) (e : Byte),
    exec .nop s = .next (n8Ends s s.n8 s.sp (s.pc + 1) (s.cfg.cost .nop)) ∧
    exec .jp_hl s = .next (n8Ends s s.n8 s.sp (s.n8.h ++ s.n8.l) (s.cfg.cost .jpHL)) ∧
    exec (.jp_a16 a) s = .next (n8Ends s s.n8 s.sp a (s.cfg.cost .jp)) ∧
    (∀ p ∈ jpCcForms, exec (p.1 a) s = .next (n8Ends s s.n8 s.sp (if ccPassed p.2 s.n8.f then a else s.pc + 3)
      (s.cfg.cost (.jpCc (ccPassed p.2 s.n8.f))))) ∧
    (∀ p ∈ jrCcForms, exec (p.1 e) s = .next (n8Ends s s.n8 s.sp
      (if ccPassed p.2 s.n8.f then s.pc + 2 + BitVec.ofInt 16 e.toInt else s.pc + 2)
      (s.cfg.cost (.jrCc (ccPassed p.2 s.n8.f)))))

/-- HALT and JR e8 (R512, R516): PC, and `running` with HALT. CALL, RST and RET (R518 to R522): where the stack is routed, CALL
and RST push the address after themselves and jump, RET pops PC; a conditional form whose condition fails goes past itself and touches
no memory. All with their encodings. -/
def Obligations.CallsReturns : Prop :=
  (encode .halt = [0x76] ∧ ∀ e : Byte, encode (.jr_e8 e) = [0x18, e] ∧
    ∀ s : State,
      exec .halt s = .next { n8Ends s s.n8 s.sp (s.pc + 1) (s.cfg.cost .halt) with running := false } ∧
      exec (.jr_e8 e) s = .next (n8Ends s s.n8 s.sp (s.pc + 2 + BitVec.ofInt 16 e.toInt) (s.cfg.cost .jr))) ∧
  (encode .ret = [0xC9] ∧
    (∀ a : Half, encode (.call_a16 a) = [0xCD, a.setWidth 8, (a >>> 8).setWidth 8]) ∧
    (∀ p ∈ callCcForms, ∀ a : Half, encode (p.1 a) = [0xC4 + 8 * p.2.code, a.setWidth 8, (a >>> 8).setWidth 8]) ∧
    (∀ p ∈ retCcForms, encode p.1 = [0xC0 + 8 * p.2.code]) ∧
    (∀ p ∈ rstForms, encode p.1 = [0xC7 + BitVec.ofNat 8 (8 * p.2)])) ∧
  (∀ (s : State) (r r' : Region) (o o' : Nat) (a : Half), Routes8 s (s.sp - 1) r o → Routes8 s (s.sp - 2) r' o' →
    ∀ (i : Instr) (len : Half) (target : Half) (row : CostRow),
      (i, len, target, row) ∈
        (Instr.call_a16 a, 3, a, CostRow.call) ::
        (callCcForms.filter (fun p => ccPassed p.2 s.n8.f)).map (fun p => (p.1 a, 3, a, CostRow.callCc true)) ++
        rstForms.map (fun p => (p.1, 1, BitVec.ofNat 16 (8 * p.2), CostRow.rst)) →
      exec i s = .next (n8Ends
        ((s.writeByte r o (((s.pc + len) >>> 8).setWidth 8)).writeByte r' o' ((s.pc + len).setWidth 8))
        s.n8 (s.sp - 2) target (s.cfg.cost row))) ∧
  (∀ (s : State) (r r' : Region) (o o' : Nat), Routes8 s s.sp r o → Routes8 s (s.sp + 1) r' o' →
    ∀ (i : Instr) (row : CostRow),
      (i, row) ∈ (Instr.ret, CostRow.ret) ::
        (retCcForms.filter (fun p => ccPassed p.2 s.n8.f)).map (fun p => (p.1, CostRow.retCc true)) →
      exec i s = .next (n8Ends ((s.afterRead r o .byte).afterRead r' o' .byte) s.n8 (s.sp + 2)
        (byteRead (s.afterRead r o .byte) r' o' ++ byteRead s r o) (s.cfg.cost row))) ∧
  (∀ (s : State) (a : Half),
    (∀ p ∈ callCcForms, ccPassed p.2 s.n8.f = false →
      exec (p.1 a) s = .next (n8Ends s s.n8 s.sp (s.pc + 3) (s.cfg.cost (.callCc false)))) ∧
    (∀ p ∈ retCcForms, ccPassed p.2 s.n8.f = false →
      exec p.1 s = .next (n8Ends s s.n8 s.sp (s.pc + 1) (s.cfg.cost (.retCc false)))))

/-! ## The whole machine -/

/-- What `reset` leaves in each profile (R90, R580, R582); the model's state after reset is a reset of itself at address 0 (the
address is the model's choice, log 2; so are that its status word is the default reset status of A32, log 3, and that its memory
lists nothing, log 4), it meets the invariant of `StepKeepsInvariant` (R45), and the default maps are as `map` would build them
(R111, R112, R131, R132). -/
def Obligations.ResetValues : Prop :=
  (∀ (s : State) (entry : Word), s.cfg.profile = .a32 →
    let t := resetAt s entry
    (∀ r : Reg, r ≠ 15 → t.getX r = 0) ∧
    (t.getX 15 = if s.cfg.resetStatusA32.getLsbD 5 then entry - entry % 2 else entry - entry % 4) ∧
    t.sw = s.cfg.resetStatusA32 ∧ t.openBus = 0 ∧ t.running = true ∧ t.mem = s.mem ∧ t.cfg = s.cfg ∧
    t.events = s.events) ∧
  (∀ (s : State) (entry : Word), s.cfg.profile = .n8 →
    resetAt s entry = { s with n8 := ⟨0, s.cfg.resetStatusN8, 0, 0, 0, 0, 0, 0⟩, sp := 0, pc := entry.setWidth 16,
                               openBus := 0, running := true }) ∧
  (State.reset = resetAt State.reset 0 ∧ State.reset.sw = 0x000000D3 ∧ State.reset.mem = []) ∧
  (Inv State.reset ∧ MapOk Config.a32 ∧ MapOk Config.n8)

/-- Every step keeps memory in canonical form (the form is the model's choice, log 4) and R15 aligned to the fetch granularity of
T (R45). -/
def Obligations.StepKeepsInvariant : Prop := ∀ s t : State, Inv s → step s = .next t → Inv t

/-- No step ends in a refusal, and the fault of a step is one of the four kinds a step may raise in its profile, recorded with
the profile and with an address: that of the instruction, or, for the fetch of an N8 operand byte, one or two bytes on (R540, R541).
The draws it records are the model's choice (log 5, log 7). -/
def Obligations.StepOutcomes : Prop :=
  ∀ s : State, (∀ r, step s ≠ .refused r) ∧
    ∀ f, step s = .fault f → ∃ site, f.site = some site ∧ site.profile = s.cfg.profile ∧ s.draws ≤ site.draws ∧
      (site.addr = s.here ∨
        s.cfg.profile = .n8 ∧ (site.addr = (s.pc + 1).setWidth 32 ∨ site.addr = (s.pc + 2).setWidth 32)) ∧
      (s.cfg.profile = .a32 → f.code = 2 ∨ f.code = 4 ∨ f.code = 5) ∧
      (s.cfg.profile = .n8 → f.code = 2 ∨ f.code = 3)

/-- No step changes the setup (R110) or the mode bits M[4:0] (R63). That none changes the registers of the other profile is the
model's choice: it holds the registers of both in one State, where a core has one profile (R2, log 1). -/
def Obligations.StepKeepsSetup : Prop :=
  ∀ s t : State, step s = .next t →
    t.cfg = s.cfg ∧ t.sw.extractLsb' 0 5 = s.sw.extractLsb' 0 5 ∧
    (s.cfg.profile = .a32 → t.n8 = s.n8 ∧ t.sp = s.sp ∧ t.pc = s.pc) ∧
    (s.cfg.profile = .n8 → t.x = s.x ∧ t.sw = s.sw)

/-- T changes only by BX, `running` only by HALT, and F[3:0] only by POP AF (R64, R72, R82). -/
def Obligations.OnlyTheseChange : Prop :=
  ∀ (i : Instr) (s t : State), exec i s = .next t →
    (t.sw.getLsbD 5 ≠ s.sw.getLsbD 5 → ∃ c r, i = .bx c r) ∧
    (t.running ≠ s.running → i = .halt) ∧
    (t.n8.f.extractLsb' 0 4 ≠ s.n8.f.extractLsb' 0 4 → i = .pop_af)

/-- A step changes no byte outside the mapped parts of writable buffers: no read-only region, and nothing unmapped (R104, R105).
The cells of the backing store are the model's choice (log 4). -/
def Obligations.ReadOnlyUnchanged : Prop :=
  ∀ (s t : State) (c : Nat), step s = .next t →
    (∀ e ∈ s.cfg.map, e.region.kind = .buffer false →
      c < e.region.base + e.localBase ∨ e.region.base + e.localBase + (e.last - e.start) < c) →
    Memory.get t.mem c = Memory.get s.mem c

/-- A step that returns normally calls `advance` exactly once, after everything else the host sees of it (R15, R243). That what the
host sees is a list of events is the model's choice (log 6). -/
def Obligations.OneAdvance : Prop :=
  ∀ s t : State, step s = .next t →
    ∃ (n : Nat) (seen : List Event), t.events = .advance n :: (seen ++ s.events) ∧ ∀ k, Event.advance k ∉ seen

/-- `map` (R111) succeeds exactly where the size is not 0, the range lies in the address space and in the region, and no entry
overlaps it; it then appends its entry and changes nothing else, and so keeps the mapping table free of overlaps and inside the
address space and the regions (R111, R112). `io_bind` (R128) succeeds exactly for an offset inside an I/O block that was not bound
in that block before (that a block is a number, and what a buffer region answers, are the model's choices, log 16); it then binds
it and changes nothing else. A rejected request is the fault's information. -/
def Obligations.HostMapKeepsMap : Prop :=
  (∀ (s : State) (start size : Nat) (region : Region) (localBase : Nat),
    ((∃ t, hostMap s start size region localBase = .ok t) ↔
      size ≠ 0 ∧ start + size ≤ 2 ^ s.cfg.profile.alen ∧ localBase + size ≤ region.size ∧
        ∀ e ∈ s.cfg.map, start + size ≤ e.start ∨ e.last < start) ∧
    match hostMap s start size region localBase with
    | .ok t =>
      t = { s with cfg := { s.cfg with map := s.cfg.map ++ [⟨start, start + size - 1, region, localBase⟩] } } ∧
        (MapOk s.cfg → MapOk t.cfg)
    | .error f => f = .configuration (.map start size region localBase)) ∧
  (∀ (s : State) (region : Region) (offset : Nat),
    ((∃ t, ioBind s region offset = .ok t) ↔
      ∃ b, region.kind = .io b ∧ offset < region.size ∧ (b, offset) ∉ s.cfg.bindings) ∧
    match ioBind s region offset with
    | .ok t => ∃ b, region.kind = .io b ∧
        t = { s with cfg := { s.cfg with bindings := (b, offset) :: s.cfg.bindings } }
    | .error f => f = .configuration (.ioBind region offset))

/-- `run(bound)` (R240) ends halted, at the bound, in a self-loop or in a fault, never for want of rounds. Ending halted or at the
bound it has made that many steps, none of which ends a run, and the core is then not running, or running with exactly `bound`
steps made; ending in a self-loop its last step, from a state with the program counter reported, left it there and the core running;
ending in a fault it leaves what that fault leaves of the state before the faulting step. `run()` without a bound is the same,
never ends at a bound, and uses up its rounds only when all of them were steps (the rounds are the model's choice, log 13). -/
def Obligations.RunBoundEnds : Prop :=
  (∀ (bound : Nat) (s : State), RunEnds s (runBound bound s).1 (runBound bound s).2 ∧
    match (runBound bound s).1 with
    | .halted k => k ≤ bound
    | .boundReached k => k = bound
    | .selfLoop k _ => k ≤ bound
    | .fault k _ => k < bound
    | .refused _ _ => False
    | .outOfFuel _ => False) ∧
  (∀ (fuel : Nat) (s : State), RunEnds s (runFree fuel s).1 (runFree fuel s).2 ∧
    (∀ k, (runFree fuel s).1 ≠ .boundReached k) ∧ (∀ k, (runFree fuel s).1 = .outOfFuel k → k = fuel))
end

