-- ==== Sys2Proof/Laws/Bits.lean ====
section
/-! SUPPORT. Fields of words and single bits: what each reads after it is placed. -/

namespace Sys2Proof

theorem put_getLsbD {n : Nat} (lo : Nat) (v : BitVec n) (i : Nat) :
    (put lo v).getLsbD i = (decide (i < 32) && decide (lo ≤ i) && v.getLsbD (i - lo)) := by
  simp only [put, BitVec.getLsbD_shiftLeft, BitVec.getLsbD_setWidth]
  by_cases h : i < 32
  · by_cases h' : lo ≤ i
    · simp [h, h', show i - lo < 32 by omega, Nat.not_lt.mpr h']
    · simp [h, h', Nat.lt_of_not_le h']
  · simp [h]

theorem fld_getLsbD (lo len : Nat) (w : Word) (i : Nat) :
    (fld lo len w).getLsbD i = (decide (i < len) && w.getLsbD (lo + i)) := by
  simp [fld]

@[simp] theorem fld_or (lo len : Nat) (v w : Word) : fld lo len (v ||| w) = fld lo len v ||| fld lo len w := by
  apply BitVec.eq_of_getLsbD_eq
  intro i hi
  rw [BitVec.getLsbD_or]
  simp only [fld_getLsbD, BitVec.getLsbD_or, hi, decide_true, Bool.true_and]

/-- A field read where it was placed. -/
theorem fld_put_same {n : Nat} (lo : Nat) (v : BitVec n) (h : lo + n ≤ 32) : fld lo n (put lo v) = v := by
  apply BitVec.eq_of_getLsbD_eq
  intro i hi
  have : lo + i < 32 := by omega
  rw [fld_getLsbD, put_getLsbD]
  simp [hi, this]

/-- A field reads zero where another was placed beside it. -/
theorem fld_put_disjoint {n : Nat} (lo len at' : Nat) (v : BitVec n) (h : lo + len ≤ at' ∨ at' + n ≤ lo) :
    fld lo len (put at' v) = 0 := by
  apply BitVec.eq_of_getLsbD_eq
  intro i hi
  rcases h with h | h
  · have : ¬ at' ≤ lo + i := by omega
    rw [fld_getLsbD, put_getLsbD]
    simp [this]
  · have : v.getLsbD (lo + i - at') = false := BitVec.getLsbD_of_ge _ _ (by omega)
    rw [fld_getLsbD, put_getLsbD]
    simp [this]

/-- A field read inside a wider placed value. -/
theorem fld_put_inside {n : Nat} (lo len at' : Nat) (v : BitVec n) (h : at' ≤ lo) (h' : lo + len ≤ 32) :
    fld lo len (put at' v) = v.extractLsb' (lo - at') len := by
  apply BitVec.eq_of_getLsbD_eq
  intro i hi
  have h1 : lo + i < 32 := by omega
  have h2 : at' ≤ lo + i := by omega
  have h3 : lo + i - at' = lo - at' + i := by omega
  rw [fld_getLsbD, put_getLsbD, BitVec.getLsbD_extractLsb', h3]
  simp [hi, h1, h2]

@[simp] theorem half_hiByte_loByte (v : Half) : half (hiByte v) (loByte v) = v := by
  apply BitVec.eq_of_getLsbD_eq
  intro i hi
  simp only [half, hiByte, loByte, BitVec.getLsbD_append, BitVec.getLsbD_extractLsb']
  rcases Nat.lt_or_ge i 8 with h | h
  · simp [h]
  · have : i - 8 < 8 := by omega
    have e : 8 + (i - 8) = i := by omega
    simp [Nat.not_lt.mpr h, this, e]

@[simp] theorem hiByte_half (hi lo : Byte) : hiByte (half hi lo) = hi := by
  apply BitVec.eq_of_getLsbD_eq
  intro i h
  simp only [half, hiByte, BitVec.getLsbD_append, BitVec.getLsbD_extractLsb']
  simp [h]

@[simp] theorem loByte_half (hi lo : Byte) : loByte (half hi lo) = lo := by
  apply BitVec.eq_of_getLsbD_eq
  intro i h
  simp only [half, loByte, BitVec.getLsbD_append, BitVec.getLsbD_extractLsb']
  simp [h]

/-- The bytes of a word, least significant first, make the word again. -/
theorem littleEndian_bytesOf (w : Word) : littleEndian (bytesOf 4 w) = w := by
  apply BitVec.eq_of_getLsbD_eq
  intro i hi
  simp only [bytesOf, List.range, List.range.loop, List.map, littleEndian, fld, BitVec.getLsbD_or,
    BitVec.getLsbD_setWidth, BitVec.getLsbD_shiftLeft, BitVec.getLsbD_extractLsb']
  interval_cases i <;> simp

namespace Machine

theorem setBit_getLsbD {n : Nat} (v : BitVec n) (i : Nat) (b : Bool) (j : Nat) :
    (setBit v i b).getLsbD j = if j = i ∧ j < n then b else v.getLsbD j := by
  unfold setBit
  rcases Nat.lt_or_ge j n with hn | hn
  · rcases Nat.lt_trichotomy j i with h | h | h
    · cases b <;> simp [hn, h, Nat.ne_of_lt h]
    · subst h
      cases b <;> simp [hn]
    · have h' : ¬ j < i := by omega
      have h'' : j - i ≠ 0 := by omega
      cases b <;> simp [hn, h', h'', Nat.ne_of_gt h]
  · have h1 := BitVec.getLsbD_of_ge v j hn
    cases b <;> simp [h1, Nat.not_lt.mpr hn]

theorem setBitOpt_getLsbD {n : Nat} (v : BitVec n) (i : Nat) (b : Option Bool) (j : Nat) :
    (setBitOpt v i b).getLsbD j = if j = i ∧ j < n then b.getD (v.getLsbD j) else v.getLsbD j := by
  cases b with
  | none => simp [setBitOpt]
  | some b => simp [setBitOpt, setBit_getLsbD]

/-- `SetFlags` of A32 changes no bit but the named flags (R73). -/
theorem setFlagsA32_getLsbD (sw : Word) (f : FlagsA32) (j : Nat) (h : j < 28) :
    (setFlagsA32 sw f).getLsbD j = sw.getLsbD j := by
  have h1 : j ≠ 31 := by omega
  have h2 : j ≠ 30 := by omega
  have h3 : j ≠ 29 := by omega
  have h4 : j ≠ 28 := by omega
  simp [setFlagsA32, setBitOpt_getLsbD, h1, h2, h3, h4]

@[simp] theorem flagT_setFlagsA32 (sw : Word) (f : FlagsA32) : flagT (setFlagsA32 sw f) = flagT sw :=
  setFlagsA32_getLsbD sw f 5 (by decide)

@[simp] theorem modeBits_setFlagsA32 (sw : Word) (f : FlagsA32) : modeBits (setFlagsA32 sw f) = modeBits sw := by
  apply BitVec.eq_of_getLsbD_eq
  intro i hi
  simp [modeBits, hi, setFlagsA32_getLsbD sw f i (by omega)]

@[simp] theorem modeBits_setBit_five (sw : Word) (b : Bool) : modeBits (setBit sw 5 b) = modeBits sw := by
  apply BitVec.eq_of_getLsbD_eq
  intro i hi
  have : i ≠ 5 := by omega
  simp [modeBits, hi, setBit_getLsbD, this]

@[simp] theorem flagT_setBit_five (sw : Word) (b : Bool) : flagT (setBit sw 5 b) = b := by
  rw [flagT, setBit_getLsbD]
  simp

@[simp] theorem flagT_statusWrite (sw : Word) (mask : BitVec 4) (v : Word) :
    flagT (statusWrite sw mask v) = flagT sw := flagT_setBit_five _ _

/-- `SetFlags` of N8 changes no bit but the named flags (R72, R73). -/
theorem setFlagsN8_getLsbD (f : Byte) (u : FlagsN8) (j : Nat) (h : j < 4) :
    (setFlagsN8 f u).getLsbD j = f.getLsbD j := by
  have h1 : j ≠ 7 := by omega
  have h2 : j ≠ 6 := by omega
  have h3 : j ≠ 5 := by omega
  have h4 : j ≠ 4 := by omega
  simp [setFlagsN8, setBitOpt_getLsbD, h1, h2, h3, h4]

end Machine

end Sys2Proof
end

