-- ==== Sys2Proof/Laws/Memory.lean ====
section
/-! SUPPORT. The backing store: what a cell reads after a write, and that every write keeps the canonical form. -/

namespace Sys2Proof.Machine

theorem Memory.get_of_wfFrom_lt {lo : Nat} {m : List Host.Cell} {a : Nat} (h : Memory.wfFrom lo m = true)
    (ha : a < lo) : Memory.get m a = 0 := by
  induction m generalizing lo with
  | nil => rfl
  | cons c rest ih =>
    obtain ⟨k, b⟩ := c
    simp only [Memory.wfFrom, Bool.and_eq_true, decide_eq_true_eq] at h
    have hk : k ≠ a := by omega
    simp only [Memory.get, hk, if_false]
    exact ih h.2 (by omega)

theorem Memory.wfFrom_mono {lo lo' : Nat} {m : List Host.Cell} (h : Memory.wfFrom lo m = true) (hl : lo' ≤ lo) :
    Memory.wfFrom lo' m = true := by
  cases m with
  | nil => rfl
  | cons c rest =>
    obtain ⟨k, b⟩ := c
    simp only [Memory.wfFrom, Bool.and_eq_true, decide_eq_true_eq] at h ⊢
    exact ⟨⟨by omega, h.1.2⟩, h.2⟩

/-- A cell reads what was written to it. -/
theorem Memory.get_set_same {m : List Host.Cell} {lo : Nat} (h : Memory.wfFrom lo m = true) (a : Nat) (b : Byte) :
    Memory.get (Memory.set m a b) a = b := by
  induction m generalizing lo with
  | nil =>
    by_cases hb : b = 0#8
    · simp [Memory.set, Memory.get, hb]
    · simp [Memory.set, Memory.get, hb]
  | cons c rest ih =>
    obtain ⟨k, d⟩ := c
    simp only [Memory.wfFrom, Bool.and_eq_true, decide_eq_true_eq] at h
    simp only [Memory.set]
    split
    · next hk =>
      by_cases hb : b = 0#8
      · have : Memory.get rest a = 0 := Memory.get_of_wfFrom_lt h.2 (by omega)
        simp [hb, Memory.get, this, show k ≠ a by omega]
      · simp [hb, Memory.get]
    · split
      · next hk =>
        subst hk
        by_cases hb : b = 0#8
        · simp [hb, Memory.get_of_wfFrom_lt h.2 (Nat.lt_succ_self a)]
        · simp [hb, Memory.get]
      · next hk => simp [Memory.get, show k ≠ a by omega, ih h.2]

/-- A cell reads as before a write to another. -/
theorem Memory.get_set_other (m : List Host.Cell) {a a' : Nat} (b : Byte) (h : a' ≠ a) :
    Memory.get (Memory.set m a b) a' = Memory.get m a' := by
  induction m with
  | nil => by_cases hb : b = 0#8 <;> simp [Memory.set, Memory.get, hb, Ne.symm h]
  | cons c rest ih =>
    obtain ⟨k, d⟩ := c
    simp only [Memory.set]
    split
    · by_cases hb : b = 0#8 <;> simp [hb, Memory.get, Ne.symm h]
    · split
      · next hk =>
        subst hk
        by_cases hb : b = 0#8 <;> simp [hb, Memory.get, Ne.symm h]
      · simp only [Memory.get, ih]

theorem Memory.wfFrom_set {m : List Host.Cell} {lo : Nat} (h : Memory.wfFrom lo m = true) (a : Nat) (b : Byte)
    (ha : lo ≤ a) : Memory.wfFrom lo (Memory.set m a b) = true := by
  induction m generalizing lo with
  | nil => by_cases hb : b = 0#8 <;> simp [Memory.set, Memory.wfFrom, hb, ha]
  | cons c rest ih =>
    obtain ⟨k, d⟩ := c
    simp only [Memory.wfFrom, Bool.and_eq_true, decide_eq_true_eq] at h
    simp only [Memory.set]
    split
    · next hk =>
      by_cases hb : b = 0#8
      · have hd : ¬ d = 0#8 := by simpa using h.1.2
        simp [hb, Memory.wfFrom, h.1.1, hd, h.2]
      · have : Memory.wfFrom (a + 1) ((k, d) :: rest) = true := by
          simp only [Memory.wfFrom, Bool.and_eq_true, decide_eq_true_eq]
          exact ⟨⟨by omega, h.1.2⟩, h.2⟩
        have hb' : ¬ b = 0 := hb
        rw [if_neg hb', Memory.wfFrom, this]
        simp [ha, hb]
    · split
      · next hk =>
        subst hk
        by_cases hb : b = 0#8
        · have hb' : b = 0 := hb
          rw [if_pos hb']
          exact Memory.wfFrom_mono h.2 (by omega)
        · simp [hb, Memory.wfFrom, ha, h.2]
      · next h1 h2 =>
        simp only [Memory.wfFrom, Bool.and_eq_true, decide_eq_true_eq]
        exact ⟨⟨h.1.1, h.1.2⟩, ih h.2 (by omega)⟩

/-- A write keeps the canonical form. -/
theorem Memory.wf_set {m : List Host.Cell} (h : Memory.wf m = true) (a : Nat) (b : Byte) :
    Memory.wf (Memory.set m a b) = true := Memory.wfFrom_set h a b (Nat.zero_le a)

/-- The memory of the reset state is canonical. -/
theorem Memory.wf_reset : Memory.wf State.reset.mem = true := rfl

end Sys2Proof.Machine
end

