-- ==== Sys2Proof/Laws/State.lean ====
section
/-! SUPPORT. What every update of the state leaves of every field. -/

namespace Sys2Proof.Machine

@[simp] theorem getX_setX (s : State) (i : Reg) (v : Word) (j : Reg) :
    (s.setX i v).getX j = if j = i then v else s.getX j := by
  simp only [State.getX, State.setX, Vector.get_eq_getElem, Vector.getElem_set]
  by_cases h : j = i
  · subst h; simp
  · have : ¬ i.toNat = j.toNat := fun e => h (BitVec.eq_of_toNat_eq e.symm)
    simp only [h, if_false]
    rw [if_neg]
    exact this

/-! `setX` -/

@[simp] theorem setX_cfg (s : State) (i : Reg) (v : Word) : (s.setX i v).cfg = s.cfg := rfl
@[simp] theorem setX_sw (s : State) (i : Reg) (v : Word) : (s.setX i v).sw = s.sw := rfl
@[simp] theorem setX_n8 (s : State) (i : Reg) (v : Word) : (s.setX i v).n8 = s.n8 := rfl
@[simp] theorem setX_sp (s : State) (i : Reg) (v : Word) : (s.setX i v).sp = s.sp := rfl
@[simp] theorem setX_pc (s : State) (i : Reg) (v : Word) : (s.setX i v).pc = s.pc := rfl
@[simp] theorem setX_openBus (s : State) (i : Reg) (v : Word) : (s.setX i v).openBus = s.openBus := rfl
@[simp] theorem setX_running (s : State) (i : Reg) (v : Word) : (s.setX i v).running = s.running := rfl
@[simp] theorem setX_mem (s : State) (i : Reg) (v : Word) : (s.setX i v).mem = s.mem := rfl
@[simp] theorem setX_draws (s : State) (i : Reg) (v : Word) : (s.setX i v).draws = s.draws := rfl
@[simp] theorem setX_events (s : State) (i : Reg) (v : Word) : (s.setX i v).events = s.events := rfl
@[simp] theorem setX_get8 (s : State) (i : Reg) (v : Word) (r8 : R8) : (s.setX i v).get8 r8 = s.get8 r8 := by cases r8 <;> rfl

/-! `setFlagsA32` -/

@[simp] theorem setFlagsA32_cfg (s : State) (f : FlagsA32) : (s.setFlagsA32 f).cfg = s.cfg := rfl
@[simp] theorem setFlagsA32_x (s : State) (f : FlagsA32) : (s.setFlagsA32 f).x = s.x := rfl
@[simp] theorem setFlagsA32_n8 (s : State) (f : FlagsA32) : (s.setFlagsA32 f).n8 = s.n8 := rfl
@[simp] theorem setFlagsA32_sp (s : State) (f : FlagsA32) : (s.setFlagsA32 f).sp = s.sp := rfl
@[simp] theorem setFlagsA32_pc (s : State) (f : FlagsA32) : (s.setFlagsA32 f).pc = s.pc := rfl
@[simp] theorem setFlagsA32_openBus (s : State) (f : FlagsA32) : (s.setFlagsA32 f).openBus = s.openBus := rfl
@[simp] theorem setFlagsA32_running (s : State) (f : FlagsA32) : (s.setFlagsA32 f).running = s.running := rfl
@[simp] theorem setFlagsA32_mem (s : State) (f : FlagsA32) : (s.setFlagsA32 f).mem = s.mem := rfl
@[simp] theorem setFlagsA32_draws (s : State) (f : FlagsA32) : (s.setFlagsA32 f).draws = s.draws := rfl
@[simp] theorem setFlagsA32_events (s : State) (f : FlagsA32) : (s.setFlagsA32 f).events = s.events := rfl
@[simp] theorem setFlagsA32_getX (s : State) (f : FlagsA32) (j : Reg) : (s.setFlagsA32 f).getX j = s.getX j := rfl
@[simp] theorem setFlagsA32_get8 (s : State) (f : FlagsA32) (r8 : R8) : (s.setFlagsA32 f).get8 r8 = s.get8 r8 := by cases r8 <;> rfl

/-! `set8` -/

@[simp] theorem set8_cfg (s : State) (r : R8) (v : Byte) : (s.set8 r v).cfg = s.cfg := rfl
@[simp] theorem set8_x (s : State) (r : R8) (v : Byte) : (s.set8 r v).x = s.x := rfl
@[simp] theorem set8_sw (s : State) (r : R8) (v : Byte) : (s.set8 r v).sw = s.sw := rfl
@[simp] theorem set8_sp (s : State) (r : R8) (v : Byte) : (s.set8 r v).sp = s.sp := rfl
@[simp] theorem set8_pc (s : State) (r : R8) (v : Byte) : (s.set8 r v).pc = s.pc := rfl
@[simp] theorem set8_openBus (s : State) (r : R8) (v : Byte) : (s.set8 r v).openBus = s.openBus := rfl
@[simp] theorem set8_running (s : State) (r : R8) (v : Byte) : (s.set8 r v).running = s.running := rfl
@[simp] theorem set8_mem (s : State) (r : R8) (v : Byte) : (s.set8 r v).mem = s.mem := rfl
@[simp] theorem set8_draws (s : State) (r : R8) (v : Byte) : (s.set8 r v).draws = s.draws := rfl
@[simp] theorem set8_events (s : State) (r : R8) (v : Byte) : (s.set8 r v).events = s.events := rfl
@[simp] theorem set8_getX (s : State) (r : R8) (v : Byte) (j : Reg) : (s.set8 r v).getX j = s.getX j := rfl

/-! `setPair` -/

@[simp] theorem setPair_cfg (s : State) (p : Pair) (v : Half) : (s.setPair p v).cfg = s.cfg := rfl
@[simp] theorem setPair_x (s : State) (p : Pair) (v : Half) : (s.setPair p v).x = s.x := rfl
@[simp] theorem setPair_sw (s : State) (p : Pair) (v : Half) : (s.setPair p v).sw = s.sw := rfl
@[simp] theorem setPair_sp (s : State) (p : Pair) (v : Half) : (s.setPair p v).sp = s.sp := rfl
@[simp] theorem setPair_pc (s : State) (p : Pair) (v : Half) : (s.setPair p v).pc = s.pc := rfl
@[simp] theorem setPair_openBus (s : State) (p : Pair) (v : Half) : (s.setPair p v).openBus = s.openBus := rfl
@[simp] theorem setPair_running (s : State) (p : Pair) (v : Half) : (s.setPair p v).running = s.running := rfl
@[simp] theorem setPair_mem (s : State) (p : Pair) (v : Half) : (s.setPair p v).mem = s.mem := rfl
@[simp] theorem setPair_draws (s : State) (p : Pair) (v : Half) : (s.setPair p v).draws = s.draws := rfl
@[simp] theorem setPair_events (s : State) (p : Pair) (v : Half) : (s.setPair p v).events = s.events := rfl
@[simp] theorem setPair_getX (s : State) (p : Pair) (v : Half) (j : Reg) : (s.setPair p v).getX j = s.getX j := rfl

/-! `set16` -/

@[simp] theorem set16_cfg (s : State) (r : R16) (v : Half) : (s.set16 r v).cfg = s.cfg := by cases r <;> rfl
@[simp] theorem set16_x (s : State) (r : R16) (v : Half) : (s.set16 r v).x = s.x := by cases r <;> rfl
@[simp] theorem set16_sw (s : State) (r : R16) (v : Half) : (s.set16 r v).sw = s.sw := by cases r <;> rfl
@[simp] theorem set16_pc (s : State) (r : R16) (v : Half) : (s.set16 r v).pc = s.pc := by cases r <;> rfl
@[simp] theorem set16_openBus (s : State) (r : R16) (v : Half) : (s.set16 r v).openBus = s.openBus := by cases r <;> rfl
@[simp] theorem set16_running (s : State) (r : R16) (v : Half) : (s.set16 r v).running = s.running := by cases r <;> rfl
@[simp] theorem set16_mem (s : State) (r : R16) (v : Half) : (s.set16 r v).mem = s.mem := by cases r <;> rfl
@[simp] theorem set16_draws (s : State) (r : R16) (v : Half) : (s.set16 r v).draws = s.draws := by cases r <;> rfl
@[simp] theorem set16_events (s : State) (r : R16) (v : Half) : (s.set16 r v).events = s.events := by cases r <;> rfl
@[simp] theorem set16_getX (s : State) (r : R16) (v : Half) (j : Reg) : (s.set16 r v).getX j = s.getX j := congrArg (fun x : Vector Word 16 => x.get j.toFin) (set16_x s r v)

/-! `setFlagsN8` -/

@[simp] theorem setFlagsN8_cfg (s : State) (u : FlagsN8) : (s.setFlagsN8 u).cfg = s.cfg := rfl
@[simp] theorem setFlagsN8_x (s : State) (u : FlagsN8) : (s.setFlagsN8 u).x = s.x := rfl
@[simp] theorem setFlagsN8_sw (s : State) (u : FlagsN8) : (s.setFlagsN8 u).sw = s.sw := rfl
@[simp] theorem setFlagsN8_sp (s : State) (u : FlagsN8) : (s.setFlagsN8 u).sp = s.sp := rfl
@[simp] theorem setFlagsN8_pc (s : State) (u : FlagsN8) : (s.setFlagsN8 u).pc = s.pc := rfl
@[simp] theorem setFlagsN8_openBus (s : State) (u : FlagsN8) : (s.setFlagsN8 u).openBus = s.openBus := rfl
@[simp] theorem setFlagsN8_running (s : State) (u : FlagsN8) : (s.setFlagsN8 u).running = s.running := rfl
@[simp] theorem setFlagsN8_mem (s : State) (u : FlagsN8) : (s.setFlagsN8 u).mem = s.mem := rfl
@[simp] theorem setFlagsN8_draws (s : State) (u : FlagsN8) : (s.setFlagsN8 u).draws = s.draws := rfl
@[simp] theorem setFlagsN8_events (s : State) (u : FlagsN8) : (s.setFlagsN8 u).events = s.events := rfl
@[simp] theorem setFlagsN8_getX (s : State) (u : FlagsN8) (j : Reg) : (s.setFlagsN8 u).getX j = s.getX j := rfl

/-! `advanceN8` -/

@[simp] theorem advanceN8_cfg (s : State) (n : Nat) : (s.advanceN8 n).cfg = s.cfg := rfl
@[simp] theorem advanceN8_x (s : State) (n : Nat) : (s.advanceN8 n).x = s.x := rfl
@[simp] theorem advanceN8_sw (s : State) (n : Nat) : (s.advanceN8 n).sw = s.sw := rfl
@[simp] theorem advanceN8_n8 (s : State) (n : Nat) : (s.advanceN8 n).n8 = s.n8 := rfl
@[simp] theorem advanceN8_sp (s : State) (n : Nat) : (s.advanceN8 n).sp = s.sp := rfl
@[simp] theorem advanceN8_openBus (s : State) (n : Nat) : (s.advanceN8 n).openBus = s.openBus := rfl
@[simp] theorem advanceN8_running (s : State) (n : Nat) : (s.advanceN8 n).running = s.running := rfl
@[simp] theorem advanceN8_mem (s : State) (n : Nat) : (s.advanceN8 n).mem = s.mem := rfl
@[simp] theorem advanceN8_draws (s : State) (n : Nat) : (s.advanceN8 n).draws = s.draws := rfl
@[simp] theorem advanceN8_events (s : State) (n : Nat) : (s.advanceN8 n).events = s.events := rfl
@[simp] theorem advanceN8_getX (s : State) (n : Nat) (j : Reg) : (s.advanceN8 n).getX j = s.getX j := rfl
@[simp] theorem advanceN8_get8 (s : State) (n : Nat) (r8 : R8) : (s.advanceN8 n).get8 r8 = s.get8 r8 := by cases r8 <;> rfl

/-! `emit` -/

@[simp] theorem emit_cfg (s : State) (e : Event) : (s.emit e).cfg = s.cfg := rfl
@[simp] theorem emit_x (s : State) (e : Event) : (s.emit e).x = s.x := rfl
@[simp] theorem emit_sw (s : State) (e : Event) : (s.emit e).sw = s.sw := rfl
@[simp] theorem emit_n8 (s : State) (e : Event) : (s.emit e).n8 = s.n8 := rfl
@[simp] theorem emit_sp (s : State) (e : Event) : (s.emit e).sp = s.sp := rfl
@[simp] theorem emit_pc (s : State) (e : Event) : (s.emit e).pc = s.pc := rfl
@[simp] theorem emit_openBus (s : State) (e : Event) : (s.emit e).openBus = s.openBus := rfl
@[simp] theorem emit_running (s : State) (e : Event) : (s.emit e).running = s.running := rfl
@[simp] theorem emit_mem (s : State) (e : Event) : (s.emit e).mem = s.mem := rfl
@[simp] theorem emit_draws (s : State) (e : Event) : (s.emit e).draws = s.draws := rfl
@[simp] theorem emit_getX (s : State) (e : Event) (j : Reg) : (s.emit e).getX j = s.getX j := rfl
@[simp] theorem emit_get8 (s : State) (e : Event) (r8 : R8) : (s.emit e).get8 r8 = s.get8 r8 := by cases r8 <;> rfl

/-! `retire` -/

@[simp] theorem retire_cfg (s : State) (r : CostRow) : (s.retire r).cfg = s.cfg := rfl
@[simp] theorem retire_x (s : State) (r : CostRow) : (s.retire r).x = s.x := rfl
@[simp] theorem retire_sw (s : State) (r : CostRow) : (s.retire r).sw = s.sw := rfl
@[simp] theorem retire_n8 (s : State) (r : CostRow) : (s.retire r).n8 = s.n8 := rfl
@[simp] theorem retire_sp (s : State) (r : CostRow) : (s.retire r).sp = s.sp := rfl
@[simp] theorem retire_pc (s : State) (r : CostRow) : (s.retire r).pc = s.pc := rfl
@[simp] theorem retire_openBus (s : State) (r : CostRow) : (s.retire r).openBus = s.openBus := rfl
@[simp] theorem retire_running (s : State) (r : CostRow) : (s.retire r).running = s.running := rfl
@[simp] theorem retire_mem (s : State) (r : CostRow) : (s.retire r).mem = s.mem := rfl
@[simp] theorem retire_draws (s : State) (r : CostRow) : (s.retire r).draws = s.draws := rfl
@[simp] theorem retire_getX (s : State) (r : CostRow) (j : Reg) : (s.retire r).getX j = s.getX j := rfl
@[simp] theorem retire_get8 (s : State) (r : CostRow) (r8 : R8) : (s.retire r).get8 r8 = s.get8 r8 := by cases r8 <;> rfl

/-! `advance4` -/

@[simp] theorem advance4_cfg (s : State)  : (s.advance4 ).cfg = s.cfg := rfl
@[simp] theorem advance4_sw (s : State)  : (s.advance4 ).sw = s.sw := rfl
@[simp] theorem advance4_n8 (s : State)  : (s.advance4 ).n8 = s.n8 := rfl
@[simp] theorem advance4_sp (s : State)  : (s.advance4 ).sp = s.sp := rfl
@[simp] theorem advance4_pc (s : State)  : (s.advance4 ).pc = s.pc := rfl
@[simp] theorem advance4_openBus (s : State)  : (s.advance4 ).openBus = s.openBus := rfl
@[simp] theorem advance4_running (s : State)  : (s.advance4 ).running = s.running := rfl
@[simp] theorem advance4_mem (s : State)  : (s.advance4 ).mem = s.mem := rfl
@[simp] theorem advance4_draws (s : State)  : (s.advance4 ).draws = s.draws := rfl
@[simp] theorem advance4_events (s : State)  : (s.advance4 ).events = s.events := rfl
@[simp] theorem advance4_get8 (s : State)  (r8 : R8) : (s.advance4 ).get8 r8 = s.get8 r8 := by cases r8 <;> rfl

/-! `writePC` -/

@[simp] theorem writePC_cfg (s : State) (v : Word) : (s.writePC v).cfg = s.cfg := rfl
@[simp] theorem writePC_sw (s : State) (v : Word) : (s.writePC v).sw = s.sw := rfl
@[simp] theorem writePC_n8 (s : State) (v : Word) : (s.writePC v).n8 = s.n8 := rfl
@[simp] theorem writePC_sp (s : State) (v : Word) : (s.writePC v).sp = s.sp := rfl
@[simp] theorem writePC_pc (s : State) (v : Word) : (s.writePC v).pc = s.pc := rfl
@[simp] theorem writePC_openBus (s : State) (v : Word) : (s.writePC v).openBus = s.openBus := rfl
@[simp] theorem writePC_running (s : State) (v : Word) : (s.writePC v).running = s.running := rfl
@[simp] theorem writePC_mem (s : State) (v : Word) : (s.writePC v).mem = s.mem := rfl
@[simp] theorem writePC_draws (s : State) (v : Word) : (s.writePC v).draws = s.draws := rfl
@[simp] theorem writePC_events (s : State) (v : Word) : (s.writePC v).events = s.events := rfl
@[simp] theorem writePC_get8 (s : State) (v : Word) (r8 : R8) : (s.writePC v).get8 r8 = s.get8 r8 := by cases r8 <;> rfl

/-! `writeReg` -/

@[simp] theorem writeReg_cfg (s : State) (i : Reg) (v : Word) : (s.writeReg i v).cfg = s.cfg := by unfold State.writeReg; split <;> rfl
@[simp] theorem writeReg_sw (s : State) (i : Reg) (v : Word) : (s.writeReg i v).sw = s.sw := by unfold State.writeReg; split <;> rfl
@[simp] theorem writeReg_n8 (s : State) (i : Reg) (v : Word) : (s.writeReg i v).n8 = s.n8 := by unfold State.writeReg; split <;> rfl
@[simp] theorem writeReg_sp (s : State) (i : Reg) (v : Word) : (s.writeReg i v).sp = s.sp := by unfold State.writeReg; split <;> rfl
@[simp] theorem writeReg_pc (s : State) (i : Reg) (v : Word) : (s.writeReg i v).pc = s.pc := by unfold State.writeReg; split <;> rfl
@[simp] theorem writeReg_openBus (s : State) (i : Reg) (v : Word) : (s.writeReg i v).openBus = s.openBus := by unfold State.writeReg; split <;> rfl
@[simp] theorem writeReg_running (s : State) (i : Reg) (v : Word) : (s.writeReg i v).running = s.running := by unfold State.writeReg; split <;> rfl
@[simp] theorem writeReg_mem (s : State) (i : Reg) (v : Word) : (s.writeReg i v).mem = s.mem := by unfold State.writeReg; split <;> rfl
@[simp] theorem writeReg_draws (s : State) (i : Reg) (v : Word) : (s.writeReg i v).draws = s.draws := by unfold State.writeReg; split <;> rfl
@[simp] theorem writeReg_events (s : State) (i : Reg) (v : Word) : (s.writeReg i v).events = s.events := by unfold State.writeReg; split <;> rfl
@[simp] theorem writeReg_get8 (s : State) (i : Reg) (v : Word) (r8 : R8) : (s.writeReg i v).get8 r8 = s.get8 r8 := by cases r8 <;> simp [State.get8]

/-! `writeByte` -/

@[simp] theorem writeByte_cfg (s : State) (r : Region) (o : Nat) (b : Byte) : (s.writeByte r o b).cfg = s.cfg := by unfold State.writeByte; split <;> rfl
@[simp] theorem writeByte_x (s : State) (r : Region) (o : Nat) (b : Byte) : (s.writeByte r o b).x = s.x := by unfold State.writeByte; split <;> rfl
@[simp] theorem writeByte_sw (s : State) (r : Region) (o : Nat) (b : Byte) : (s.writeByte r o b).sw = s.sw := by unfold State.writeByte; split <;> rfl
@[simp] theorem writeByte_n8 (s : State) (r : Region) (o : Nat) (b : Byte) : (s.writeByte r o b).n8 = s.n8 := by unfold State.writeByte; split <;> rfl
@[simp] theorem writeByte_sp (s : State) (r : Region) (o : Nat) (b : Byte) : (s.writeByte r o b).sp = s.sp := by unfold State.writeByte; split <;> rfl
@[simp] theorem writeByte_pc (s : State) (r : Region) (o : Nat) (b : Byte) : (s.writeByte r o b).pc = s.pc := by unfold State.writeByte; split <;> rfl
@[simp] theorem writeByte_openBus (s : State) (r : Region) (o : Nat) (b : Byte) : (s.writeByte r o b).openBus = s.openBus := by unfold State.writeByte; split <;> rfl
@[simp] theorem writeByte_running (s : State) (r : Region) (o : Nat) (b : Byte) : (s.writeByte r o b).running = s.running := by unfold State.writeByte; split <;> rfl
@[simp] theorem writeByte_draws (s : State) (r : Region) (o : Nat) (b : Byte) : (s.writeByte r o b).draws = s.draws := by unfold State.writeByte; split <;> rfl
@[simp] theorem writeByte_getX (s : State) (r : Region) (o : Nat) (b : Byte) (j : Reg) : (s.writeByte r o b).getX j = s.getX j := congrArg (fun x : Vector Word 16 => x.get j.toFin) (writeByte_x s r o b)
@[simp] theorem writeByte_get8 (s : State) (r : Region) (o : Nat) (b : Byte) (r8 : R8) : (s.writeByte r o b).get8 r8 = s.get8 r8 := by cases r8 <;> simp [State.get8]

/-! A read at a routed place -/
@[simp] theorem afterRead_cfg (s : State) (r : Region) (o : Nat) (w : Width) : (s.afterRead r o w).cfg = s.cfg := rfl
@[simp] theorem afterRead_x (s : State) (r : Region) (o : Nat) (w : Width) : (s.afterRead r o w).x = s.x := rfl
@[simp] theorem afterRead_sw (s : State) (r : Region) (o : Nat) (w : Width) : (s.afterRead r o w).sw = s.sw := rfl
@[simp] theorem afterRead_n8 (s : State) (r : Region) (o : Nat) (w : Width) : (s.afterRead r o w).n8 = s.n8 := rfl
@[simp] theorem afterRead_sp (s : State) (r : Region) (o : Nat) (w : Width) : (s.afterRead r o w).sp = s.sp := rfl
@[simp] theorem afterRead_pc (s : State) (r : Region) (o : Nat) (w : Width) : (s.afterRead r o w).pc = s.pc := rfl
@[simp] theorem afterRead_running (s : State) (r : Region) (o : Nat) (w : Width) : (s.afterRead r o w).running = s.running := rfl
@[simp] theorem afterRead_mem (s : State) (r : Region) (o : Nat) (w : Width) : (s.afterRead r o w).mem = s.mem := rfl
@[simp] theorem afterRead_events (s : State) (r : Region) (o : Nat) (w : Width) : (s.afterRead r o w).events = s.events := rfl
@[simp] theorem afterRead_openBus (s : State) (r : Region) (o : Nat) (w : Width) : (s.afterRead r o w).openBus = s.readValue r o w := rfl
@[simp] theorem afterRead_draws (s : State) (r : Region) (o : Nat) (w : Width) :
    (s.afterRead r o w).draws = s.draws + drawsOf r w.bytes := rfl
@[simp] theorem afterRead_getX (s : State) (r : Region) (o : Nat) (w : Width) (j : Reg) : (s.afterRead r o w).getX j = s.getX j := rfl
@[simp] theorem afterRead_get8 (s : State) (r : Region) (o : Nat) (w : Width) (q : R8) : (s.afterRead r o w).get8 q = s.get8 q := by cases q <;> rfl

@[simp] theorem setFlagsA32_sw (s : State) (f : FlagsA32) : (s.setFlagsA32 f).sw = setFlagsA32 s.sw f := rfl

@[simp] theorem emit_events (s : State) (e : Event) : (s.emit e).events = e :: s.events := rfl

@[simp] theorem retire_events (s : State) (r : CostRow) :
    (s.retire r).events = .advance (s.cfg.cost r) :: s.events := rfl

@[simp] theorem advanceN8_pc (s : State) (n : Nat) : (s.advanceN8 n).pc = s.pc + BitVec.ofNat 16 n := rfl

@[simp] theorem getX_advance4 (s : State) (j : Reg) :
    s.advance4.getX j = if j = 15 then s.getX 15 + 4 else s.getX j := by
  simp [State.advance4]

@[simp] theorem getX_writePC (s : State) (v : Word) (j : Reg) :
    (s.writePC v).getX j
      = if j = 15 then (if flagT s.sw then v &&& 0xFFFFFFFE else v &&& 0xFFFFFFFC) else s.getX j := by
  simp [State.writePC]

theorem getX_writeReg (s : State) (i : Reg) (v : Word) (j : Reg) :
    (s.writeReg i v).getX j
      = if j = i then
          (if i = 15 then (if flagT s.sw then v &&& 0xFFFFFFFE else v &&& 0xFFFFFFFC) else v)
        else s.getX j := by
  unfold State.writeReg
  by_cases hi : i = 15
  · subst hi; simp
  · rw [if_neg hi, if_neg hi, getX_setX]

@[simp] theorem get8_set8 (s : State) (r : R8) (v : Byte) (q : R8) :
    (s.set8 r v).get8 q = if q = r then v else s.get8 q := by
  cases r <;> cases q <;> rfl

@[simp] theorem n8_set8 (s : State) (r : R8) (v : Byte) : (s.set8 r v).n8 = s.n8.set r v := rfl

/-- `get_pair` after `set_pair` (R68). -/
@[simp] theorem getPair_setPair (s : State) (p : Pair) (v : Half) : (s.setPair p v).getPair p = v := by
  have h : half (hiByte v) (loByte v) = v := by
    apply BitVec.eq_of_getLsbD_eq
    intro i hi
    simp only [half, hiByte, loByte, BitVec.getLsbD_append, BitVec.getLsbD_extractLsb']
    rcases Nat.lt_or_ge i 8 with h | h
    · simp [h]
    · have : i - 8 < 8 := by omega
      have e : 8 + (i - 8) = i := by omega
      simp [Nat.not_lt.mpr h, this, e]
  cases p <;> exact h

/-! Writes to the Bus and to several registers -/

@[simp] theorem writeBytes_cfg (l : List Byte) (s : State) (r : Region) (o : Nat) :
    (s.writeBytes r o l).cfg = s.cfg := by
  induction l generalizing s o with
  | nil => rfl
  | cons b rest ih => rw [State.writeBytes, ih]; simp

@[simp] theorem writeBytes_x (l : List Byte) (s : State) (r : Region) (o : Nat) :
    (s.writeBytes r o l).x = s.x := by
  induction l generalizing s o with
  | nil => rfl
  | cons b rest ih => rw [State.writeBytes, ih]; simp

@[simp] theorem writeBytes_sw (l : List Byte) (s : State) (r : Region) (o : Nat) :
    (s.writeBytes r o l).sw = s.sw := by
  induction l generalizing s o with
  | nil => rfl
  | cons b rest ih => rw [State.writeBytes, ih]; simp

@[simp] theorem writeBytes_n8 (l : List Byte) (s : State) (r : Region) (o : Nat) :
    (s.writeBytes r o l).n8 = s.n8 := by
  induction l generalizing s o with
  | nil => rfl
  | cons b rest ih => rw [State.writeBytes, ih]; simp

@[simp] theorem writeBytes_sp (l : List Byte) (s : State) (r : Region) (o : Nat) :
    (s.writeBytes r o l).sp = s.sp := by
  induction l generalizing s o with
  | nil => rfl
  | cons b rest ih => rw [State.writeBytes, ih]; simp

@[simp] theorem writeBytes_pc (l : List Byte) (s : State) (r : Region) (o : Nat) :
    (s.writeBytes r o l).pc = s.pc := by
  induction l generalizing s o with
  | nil => rfl
  | cons b rest ih => rw [State.writeBytes, ih]; simp

@[simp] theorem writeBytes_openBus (l : List Byte) (s : State) (r : Region) (o : Nat) :
    (s.writeBytes r o l).openBus = s.openBus := by
  induction l generalizing s o with
  | nil => rfl
  | cons b rest ih => rw [State.writeBytes, ih]; simp

@[simp] theorem writeBytes_running (l : List Byte) (s : State) (r : Region) (o : Nat) :
    (s.writeBytes r o l).running = s.running := by
  induction l generalizing s o with
  | nil => rfl
  | cons b rest ih => rw [State.writeBytes, ih]; simp

@[simp] theorem writeBytes_draws (l : List Byte) (s : State) (r : Region) (o : Nat) :
    (s.writeBytes r o l).draws = s.draws := by
  induction l generalizing s o with
  | nil => rfl
  | cons b rest ih => rw [State.writeBytes, ih]; simp

@[simp] theorem writeRegs_cfg (l : List (Reg × Word)) (s : State) : (writeRegs s l).cfg = s.cfg := by
  induction l generalizing s with
  | nil => rfl
  | cons p rest ih => obtain ⟨i, v⟩ := p; rw [writeRegs, ih]; simp

@[simp] theorem writeRegs_sw (l : List (Reg × Word)) (s : State) : (writeRegs s l).sw = s.sw := by
  induction l generalizing s with
  | nil => rfl
  | cons p rest ih => obtain ⟨i, v⟩ := p; rw [writeRegs, ih]; simp

@[simp] theorem writeRegs_n8 (l : List (Reg × Word)) (s : State) : (writeRegs s l).n8 = s.n8 := by
  induction l generalizing s with
  | nil => rfl
  | cons p rest ih => obtain ⟨i, v⟩ := p; rw [writeRegs, ih]; simp

@[simp] theorem writeRegs_sp (l : List (Reg × Word)) (s : State) : (writeRegs s l).sp = s.sp := by
  induction l generalizing s with
  | nil => rfl
  | cons p rest ih => obtain ⟨i, v⟩ := p; rw [writeRegs, ih]; simp

@[simp] theorem writeRegs_pc (l : List (Reg × Word)) (s : State) : (writeRegs s l).pc = s.pc := by
  induction l generalizing s with
  | nil => rfl
  | cons p rest ih => obtain ⟨i, v⟩ := p; rw [writeRegs, ih]; simp

@[simp] theorem writeRegs_openBus (l : List (Reg × Word)) (s : State) : (writeRegs s l).openBus = s.openBus := by
  induction l generalizing s with
  | nil => rfl
  | cons p rest ih => obtain ⟨i, v⟩ := p; rw [writeRegs, ih]; simp

@[simp] theorem writeRegs_running (l : List (Reg × Word)) (s : State) : (writeRegs s l).running = s.running := by
  induction l generalizing s with
  | nil => rfl
  | cons p rest ih => obtain ⟨i, v⟩ := p; rw [writeRegs, ih]; simp

@[simp] theorem writeRegs_mem (l : List (Reg × Word)) (s : State) : (writeRegs s l).mem = s.mem := by
  induction l generalizing s with
  | nil => rfl
  | cons p rest ih => obtain ⟨i, v⟩ := p; rw [writeRegs, ih]; simp

@[simp] theorem writeRegs_draws (l : List (Reg × Word)) (s : State) : (writeRegs s l).draws = s.draws := by
  induction l generalizing s with
  | nil => rfl
  | cons p rest ih => obtain ⟨i, v⟩ := p; rw [writeRegs, ih]; simp

@[simp] theorem writeRegs_events (l : List (Reg × Word)) (s : State) : (writeRegs s l).events = s.events := by
  induction l generalizing s with
  | nil => rfl
  | cons p rest ih => obtain ⟨i, v⟩ := p; rw [writeRegs, ih]; simp

@[simp] theorem writeBytes_getX (l : List Byte) (s : State) (r : Region) (o : Nat) (j : Reg) :
    (s.writeBytes r o l).getX j = s.getX j := congrArg (fun x : Vector Word 16 => x.get j.toFin) (writeBytes_x l s r o)

@[simp] theorem writeBytes_get8 (l : List Byte) (s : State) (r : Region) (o : Nat) (q : R8) :
    (s.writeBytes r o l).get8 q = s.get8 q := by cases q <;> simp [State.get8]

end Sys2Proof.Machine
end

