-- ==== Sys2Proof/Laws/Bus.lean ====
section
/-! SUPPORT. Everything a Bus access can do: one lemma for a read, one for a write, for each way the model makes them, and
what a write leaves of memory. -/

namespace Sys2Proof.Machine

theorem busRead_of_route {s : State} {a : Word} {w : Width} {r : Region} {o : Nat}
    (h : route s.cfg a.toNat w.bytes = some (r, o)) :
    busRead s a w = some (s.readValue r o w, s.afterRead r o w) := by
  simp only [busRead, h]

theorem busRead_of_none {s : State} {a : Word} {w : Width} (h : route s.cfg a.toNat w.bytes = none) :
    busRead s a w = none := by
  simp only [busRead, h]

/-- Everything a load can do. -/
theorem loadAt_cases (s : State) (addr a : Word) (w : Width) :
    (∃ r o, route s.cfg a.toNat w.bytes = some (r, o) ∧
      s.loadAt addr a w = .ok (s.readValue r o w, s.afterRead r o w)) ∨
    (route s.cfg a.toNat w.bytes = none ∧ s.loadAt addr a w = .error (.bus (s.siteAt addr) a w .read)) := by
  cases h : route s.cfg a.toNat w.bytes with
  | none => exact .inr ⟨rfl, by simp only [State.loadAt, busRead_of_none h]⟩
  | some p => exact .inl ⟨p.1, p.2, rfl, by simp only [State.loadAt, busRead_of_route h]⟩

theorem load_of_route {s : State} {a : Word} {w : Width} {r : Region} {o : Nat}
    (h : route s.cfg a.toNat w.bytes = some (r, o)) :
    s.load a w = .ok (s.readValue r o w, s.afterRead r o w) := by
  simp only [State.load, State.loadAt, busRead_of_route h]

theorem load_of_none {s : State} {a : Word} {w : Width} (h : route s.cfg a.toNat w.bytes = none) :
    s.load a w = .error (.bus s.site a w .read) := by
  simp only [State.load, State.loadAt, busRead_of_none h, State.site]

theorem load_ok {s t : State} {a v : Word} {w : Width} (h : s.load a w = .ok (v, t)) :
    ∃ r o, route s.cfg a.toNat w.bytes = some (r, o) ∧ v = s.readValue r o w ∧ t = s.afterRead r o w := by
  obtain ⟨r, o, hr, hl⟩ | ⟨_, hl⟩ := loadAt_cases s s.here a w
  · rw [State.load, hl] at h
    cases h
    exact ⟨r, o, hr, rfl, rfl⟩
  · rw [State.load, hl] at h
    cases h

theorem load8_ok {s t : State} {a : Half} {b : Byte} (h : s.load8 a = .ok (b, t)) :
    ∃ r o, route s.cfg (a.setWidth 32).toNat 1 = some (r, o) ∧ b = (s.readValue r o .byte).setWidth 8 ∧
      t = s.afterRead r o .byte := by
  unfold State.load8 at h
  split at h
  · cases h
  · next v u hl =>
    obtain ⟨r, o, hr, hv, ht⟩ := load_ok hl
    cases h
    exact ⟨r, o, hr, by rw [hv], ht⟩

/-- Everything a store can do. -/
theorem store_cases (s : State) (a : Word) (w : Width) (v : Word) :
    (∃ r o, route s.cfg a.toNat w.bytes = some (r, o) ∧
      s.store a w v = .ok (s.writeBytes r o (bytesOf w.bytes v))) ∨
    (route s.cfg a.toNat w.bytes = none ∧ s.store a w v = .error (.bus s.site a w .write)) := by
  cases h : route s.cfg a.toNat w.bytes with
  | none => exact .inr ⟨rfl, by simp only [State.store, busWrite, h]⟩
  | some p => exact .inl ⟨p.1, p.2, rfl, by simp only [State.store, busWrite, h]⟩

theorem store_of_route {s : State} {a v : Word} {w : Width} {r : Region} {o : Nat}
    (h : route s.cfg a.toNat w.bytes = some (r, o)) :
    s.store a w v = .ok (s.writeBytes r o (bytesOf w.bytes v)) := by
  simp only [State.store, busWrite, h]

theorem store_of_none {s : State} {a v : Word} {w : Width} (h : route s.cfg a.toNat w.bytes = none) :
    s.store a w v = .error (.bus s.site a w .write) := by
  simp only [State.store, busWrite, h]

theorem store_ok {s t : State} {a v : Word} {w : Width} (h : s.store a w v = .ok t) :
    ∃ r o, route s.cfg a.toNat w.bytes = some (r, o) ∧ t = s.writeBytes r o (bytesOf w.bytes v) := by
  obtain ⟨r, o, hr, hl⟩ | ⟨_, hl⟩ := store_cases s a w v
  · rw [hl] at h
    cases h
    exact ⟨r, o, hr, rfl⟩
  · rw [hl] at h
    cases h

theorem andThen_next {α : Type} {r : Except Fault α} {k : α → Result} {t : State} (h : andThen r k = .next t) :
    ∃ v, r = .ok v ∧ k v = .next t := by
  cases r with
  | error f => cases h
  | ok v => exact ⟨v, rfl, h⟩

@[simp] theorem andThen_ok {α : Type} (v : α) (k : α → Result) : andThen (.ok v) k = k v := rfl

@[simp] theorem andThen_error {α : Type} (f : Fault) (k : α → Result) : andThen (.error f) k = .fault f := rfl

@[simp] theorem bytesOf_length (n : Nat) (w : Word) : (bytesOf n w).length = n := by simp [bytesOf]

/-- A write to a read-only buffer changes nothing (R104). -/
theorem writeBytes_readOnly {s : State} {r : Region} (hk : r.kind = .buffer true) (l : List Byte) (o : Nat) :
    s.writeBytes r o l = s := by
  induction l generalizing o with
  | nil => rfl
  | cons b rest ih =>
    have : s.writeByte r o b = s := by simp only [State.writeByte, hk]
    rw [State.writeBytes, this, ih]

/-- A write to a writable buffer changes memory only (R104). -/
theorem writeBytes_buffer {s : State} {r : Region} (hk : r.kind = .buffer false) (l : List Byte) (o : Nat) :
    s.writeBytes r o l = { s with mem := (s.writeBytes r o l).mem } := by
  induction l generalizing s o with
  | nil => rfl
  | cons b rest ih =>
    rw [State.writeBytes, ih]
    simp only [State.writeByte, hk]

/-- A write to an I/O block is one event a byte, in ascending order (R130). -/
theorem writeBytes_io {s : State} {r : Region} {b : Nat} (hk : r.kind = .io b) (l : List Byte) (o : Nat) :
    s.writeBytes r o l = { s with
      events := (l.mapIdx fun j v => Event.ioWrite (o + j) v (s.cfg.bindings.contains (b, o + j))).reverse ++ s.events } := by
  induction l generalizing s o with
  | nil => rfl
  | cons v rest ih =>
    rw [State.writeBytes, ih]
    simp only [State.writeByte, hk, List.mapIdx_cons, List.reverse_cons, List.append_assoc, List.singleton_append,
      Nat.add_zero, Nat.add_assoc, Nat.add_comm 1]

/-- One byte written keeps the canonical form. -/
theorem writeByte_wf {s : State} (h : Memory.wf s.mem = true) (r : Region) (o : Nat) (b : Byte) :
    Memory.wf (s.writeByte r o b).mem = true := by
  unfold State.writeByte
  split
  · exact h
  · exact Memory.wf_set h _ _
  · exact h

/-- Bytes written keep the canonical form. -/
theorem writeBytes_wf {l : List Byte} {s : State} (h : Memory.wf s.mem = true) (r : Region) (o : Nat) :
    Memory.wf (s.writeBytes r o l).mem = true := by
  induction l generalizing s o with
  | nil => exact h
  | cons b rest ih => exact ih (writeByte_wf h r o b) (o + 1)

/-- A cell a byte write does not name reads as before. -/
theorem writeByte_get {s : State} {r : Region} {o c : Nat} (b : Byte)
    (h : r.kind = .buffer false → c ≠ r.base + o) :
    Memory.get (s.writeByte r o b).mem c = Memory.get s.mem c := by
  unfold State.writeByte
  split
  · rfl
  · next hk => exact Memory.get_set_other _ _ (h hk)
  · rfl

/-- A cell outside the bytes written reads as before. -/
theorem writeBytes_get {l : List Byte} {s : State} {r : Region} {o c : Nat}
    (h : r.kind = .buffer false → ∀ j, j < l.length → c ≠ r.base + (o + j)) :
    Memory.get (s.writeBytes r o l).mem c = Memory.get s.mem c := by
  induction l generalizing s o with
  | nil => rfl
  | cons b rest ih =>
    rw [State.writeBytes, ih, writeByte_get]
    · intro hk
      exact h hk 0 (by simp)
    · intro hk j hj
      have := h hk (j + 1) (by simpa using hj)
      omega

/-- A cell a store does not name reads as before. -/
theorem store_get {s t : State} {a v : Word} {w : Width} (h : s.store a w v = .ok t) {c : Nat}
    (hc : c ∉ storedCells s.cfg a w) : Memory.get t.mem c = Memory.get s.mem c := by
  obtain ⟨r, o, hr, rfl⟩ := store_ok h
  refine writeBytes_get ?_
  intro hk j hj e
  apply hc
  simp only [storedCells, hr, hk, List.mem_map, List.mem_range]
  exact ⟨j, by simpa using hj, e.symm⟩

/-- The bytes of a write to a writable buffer, as the cells read after it. -/
theorem writeBytes_get_written {l : List Byte} {s : State} (hw : Memory.wf s.mem = true) {r : Region} {o : Nat}
    (hk : r.kind = .buffer false) (j : Nat) (hj : j < l.length) :
    Memory.get (s.writeBytes r o l).mem (r.base + (o + j)) = l[j] := by
  induction l generalizing s o j with
  | nil => simp at hj
  | cons b rest ih =>
    rw [State.writeBytes]
    cases j with
    | zero =>
      rw [writeBytes_get]
      · simp only [State.writeByte, hk]
        exact Memory.get_set_same hw _ _
      · intro _ i _ e
        omega
    | succ j =>
      have := ih (writeByte_wf hw r o b) (o := o + 1) j (by simpa using hj)
      rw [show o + (j + 1) = o + 1 + j by omega, this]
      rfl

end Sys2Proof.Machine
end

