-- ==== Sys2Proof/Laws/Moves.lean ====
section
/-! SUPPORT. Said once: what the meaning of an instruction can do to the state. `exec_done` gives it for every
instruction: a next state is a chain of moves, so an invariant of execution is an induction over the chain; a fault is one
an instruction may raise, at its own address; a refusal never comes. -/

namespace Sys2Proof.Machine

/-- One thing an instruction may do. The hypotheses say which instructions may do it. -/
inductive Move (i : Instr) : State → State → Prop where
  | setX (h : i.profile = .a32) (s : State) (r : Reg) (hr : r ≠ 15) (v : Word) : Move i s (s.setX r v)
  | writePC (h : i.profile = .a32) (s : State) (v : Word) : Move i s (s.writePC v)
  | advance4 (h : i.profile = .a32) (s : State) : Move i s s.advance4
  | flags (h : i.profile = .a32) (s : State) (f : FlagsA32) : Move i s (s.setFlagsA32 f)
  | exchange (h : ∃ c r, i = .bx c r) (s : State) (b : Bool) (v : Word) :
      Move i s (State.writePC { s with sw := setBit s.sw 5 b } v)
  | status (h : i.profile = .a32) (s : State) (new : Word) (hT : flagT new = flagT s.sw)
      (hM : modeBits new = modeBits s.sw) : Move i s { s with sw := new }
  | n8 (h : i.profile = .n8) (s : State) (n : N8File)
      (hf : i = .pop_af ∨ ∀ j, j < 4 → n.f.getLsbD j = s.n8.f.getLsbD j) : Move i s { s with n8 := n }
  | sp (h : i.profile = .n8) (s : State) (v : Half) : Move i s { s with sp := v }
  | pc (h : i.profile = .n8) (s : State) (v : Half) : Move i s { s with pc := v }
  | halt (h : i = .halt) (s : State) : Move i s { s with running := false }
  | read (s : State) (a : Word) (w : Width) (r : Region) (o : Nat) (hr : route s.cfg a.toNat w.bytes = some (r, o)) :
      Move i s (s.afterRead r o w)
  | draws (h : i.profile = .a32) (s : State) (k : Nat) : Move i s { s with draws := k }
  | write (s : State) (a v : Word) (w : Width) (r : Region) (o : Nat)
      (hr : route s.cfg a.toNat w.bytes = some (r, o)) : Move i s (s.writeBytes r o (bytesOf w.bytes v))

/-- A chain of moves. -/
abbrev Moves (i : Instr) : State → State → Prop := Relation.ReflTransGen (Move i)

/-- What an access leaves alone, so that a fault raised after it reports what one raised before it would. -/
structure Accessed (s t : State) : Prop where
  cfg : t.cfg = s.cfg
  here : t.here = s.here
  draws : s.draws ≤ t.draws

/-- A fault an instruction may raise that began in `s`: of the Bus, or, in A32, of the decoder or the mode; at its own
address, with the draws counted so far. -/
def Raised (i : Instr) (s : State) (f : Fault) : Prop :=
  ∃ site, f.site = some site ∧ site.profile = s.cfg.profile ∧ site.addr = s.here ∧ s.draws ≤ site.draws ∧
    (f.code = 2 ∨ i.profile = .a32 ∧ (f.code = 4 ∨ f.code = 5))

/-- What a result may be: a next state is a chain of moves and the one `advance` at the end. -/
structure Done (i : Instr) (s : State) (res : Result) : Prop where
  next : ∀ t, res = .next t → ∃ u row, Moves i s u ∧ t = u.retire row
  fault : ∀ f, res = .fault f → Raised i s f
  noRefusal : ∀ r, res ≠ .refused r

theorem Moves.one {i : Instr} {s t : State} (h : Move i s t) : Moves i s t := .single h

theorem Moves.then {i : Instr} {s t u : State} (h : Moves i s t) (h' : Move i t u) : Moves i s u := .tail h h'

theorem complete_done {i : Instr} {s u : State} {row : CostRow} (h : Moves i s u) : Done i s (complete row u) where
  next t ht := by
    cases ht
    exact ⟨u, row, h, rfl⟩
  fault f hf := by cases hf
  noRefusal r hr := by cases hr

theorem fault_done {i : Instr} {s : State} {f : Fault} (h : Raised i s f) : Done i s (.fault f) where
  next t ht := by cases ht
  fault g hg := by cases hg; exact h
  noRefusal r hr := by cases hr

theorem andThen_done {α : Type} {i : Instr} {s : State} {r : Except Fault α} {k : α → Result}
    (he : ∀ f, r = .error f → Raised i s f) (h : ∀ v, r = .ok v → Done i s (k v)) : Done i s (andThen r k) := by
  cases r with
  | error f => exact fault_done (he f rfl)
  | ok v => exact h v rfl

theorem Accessed.refl (s : State) : Accessed s s := ⟨rfl, rfl, Nat.le_refl _⟩

theorem here_congr {s t : State} (hc : t.cfg = s.cfg) (hx : t.x = s.x) (hp : t.pc = s.pc) : t.here = s.here := by
  have hg : t.getX 15 = s.getX 15 := congrArg (fun x : Vector Word 16 => x.get (15 : Reg).toFin) hx
  unfold State.here
  rw [hc, hp, hg]

theorem Accessed.load {s t u : State} {a v : Word} {w : Width} (ha : Accessed s t) (h : t.load a w = .ok (v, u)) :
    Accessed s u := by
  obtain ⟨r, o, _, _, rfl⟩ := load_ok h
  exact ⟨ha.cfg, (here_congr rfl rfl rfl).trans ha.here, ha.draws.trans (Nat.le_add_right _ _)⟩

theorem Accessed.store {s t u : State} {a v : Word} {w : Width} (ha : Accessed s t) (h : t.store a w v = .ok u) :
    Accessed s u := by
  obtain ⟨r, o, _, rfl⟩ := store_ok h
  exact ⟨by rw [writeBytes_cfg, ha.cfg], (here_congr (by simp) (by simp) (by simp)).trans ha.here, by simpa using ha.draws⟩

theorem Accessed.load8 {s t u : State} {a : Half} {v : Byte} (ha : Accessed s t) (h : t.load8 a = .ok (v, u)) :
    Accessed s u := by
  unfold State.load8 at h
  split at h
  · cases h
  · next hl => cases h; exact ha.load hl

theorem Accessed.store8 {s t u : State} {a : Half} {v : Byte} (ha : Accessed s t) (h : t.store8 a v = .ok u) :
    Accessed s u := ha.store h

theorem raised_bus {i : Instr} {s t : State} (ha : Accessed s t) (a : Word) (w : Width) (k : AccessKind) :
    Raised i s (.bus t.site a w k) :=
  ⟨t.site, rfl, congrArg Config.profile ha.cfg, ha.here, ha.draws, .inl rfl⟩

theorem raised_load {i : Instr} {s t : State} {a : Word} {w : Width} (ha : Accessed s t) (f : Fault)
    (h : t.load a w = .error f) : Raised i s f := by
  obtain ⟨_, _, _, hl⟩ | ⟨_, hl⟩ := loadAt_cases t t.here a w
  · rw [State.load, hl] at h
    cases h
  · rw [State.load, hl] at h
    cases h
    exact raised_bus ha a w .read

theorem raised_store {i : Instr} {s t : State} {a v : Word} {w : Width} (ha : Accessed s t) (f : Fault)
    (h : t.store a w v = .error f) : Raised i s f := by
  obtain ⟨_, _, _, hl⟩ | ⟨_, hl⟩ := store_cases t a w v
  · rw [hl] at h
    cases h
  · rw [hl] at h
    cases h
    exact raised_bus ha a w .write

theorem raised_load8 {i : Instr} {s t : State} {a : Half} (ha : Accessed s t) (f : Fault)
    (h : t.load8 a = .error f) : Raised i s f := by
  unfold State.load8 at h
  split at h
  · next hl => cases h; exact raised_load ha _ hl
  · cases h

theorem raised_store8 {i : Instr} {s t : State} {a : Half} {v : Byte} (ha : Accessed s t) (f : Fault)
    (h : t.store8 a v = .error f) : Raised i s f := raised_store ha f h

theorem raised_loadMany {i : Instr} {l : List Reg} {s t : State} {a : Word} (ha : Accessed s t) (f : Fault)
    (h : Machine.loadMany t a l = .error f) : Raised i s f := by
  induction l generalizing t a with
  | nil => cases h
  | cons q rest ih =>
    unfold Machine.loadMany at h
    split at h
    · next hl => cases h; exact raised_load ha _ hl
    · next v t' hl =>
      split at h
      · next hr => cases h; exact ih (ha.load hl) hr
      · cases h

theorem raised_storeMany {i : Instr} {l : List Word} {s t : State} {a : Word} (ha : Accessed s t) (f : Fault)
    (h : Machine.storeMany t a l = .error f) : Raised i s f := by
  induction l generalizing t a with
  | nil => cases h
  | cons q rest ih =>
    unfold Machine.storeMany at h
    split at h
    · next hl => cases h; exact raised_store ha _ hl
    · next t' hl => exact ih (ha.store hl) h

theorem raised_push16 {i : Instr} {s t : State} {v : Half} (ha : Accessed s t) (f : Fault)
    (h : t.push16 v = .error f) : Raised i s f := by
  unfold State.push16 at h
  split at h
  · next hl => cases h; exact raised_store8 ha _ hl
  · next t' hl =>
    split at h
    · next hl' => cases h; exact raised_store8 (ha.store8 hl) _ hl'
    · cases h

theorem raised_pop16 {i : Instr} {s t : State} (ha : Accessed s t) (f : Fault)
    (h : t.pop16 = .error f) : Raised i s f := by
  unfold State.pop16 at h
  split at h
  · next hl => cases h; exact raised_load8 ha _ hl
  · next lo t' hl =>
    split at h
    · next hl' => cases h; exact raised_load8 (ha.load8 hl) _ hl'
    · cases h

theorem Moves.writeReg {i : Instr} {s t : State} (h : i.profile = .a32) (hm : Moves i s t) (r : Reg) (v : Word) :
    Moves i s (t.writeReg r v) := by
  unfold State.writeReg
  split
  · exact hm.then (.writePC h _ _)
  · next hr => exact hm.then (.setX h _ _ hr _)

theorem Moves.load {i : Instr} {s t u : State} {a v : Word} {w : Width} (hm : Moves i s t)
    (h : t.load a w = .ok (v, u)) : Moves i s u := by
  obtain ⟨r, o, hr, _, rfl⟩ := load_ok h
  exact hm.then (.read _ _ _ _ _ hr)

theorem Moves.store {i : Instr} {s t u : State} {a v : Word} {w : Width} (hm : Moves i s t)
    (h : t.store a w v = .ok u) : Moves i s u := by
  obtain ⟨r, o, hr, rfl⟩ := store_ok h
  exact hm.then (.write _ _ _ _ _ _ hr)

theorem Moves.load8 {i : Instr} {s t u : State} {a : Half} {v : Byte} (hm : Moves i s t)
    (h : t.load8 a = .ok (v, u)) : Moves i s u := by
  obtain ⟨r, o, hr, _, rfl⟩ := load8_ok h
  exact hm.then (.read _ _ .byte _ _ hr)

theorem Moves.store8 {i : Instr} {s t u : State} {a : Half} {v : Byte} (hm : Moves i s t)
    (h : t.store8 a v = .ok u) : Moves i s u := hm.store h

theorem Moves.loadMany {i : Instr} {l : List Reg} {s t u : State} {a : Word} {vs : List (Reg × Word)}
    (hm : Moves i s t) (h : Machine.loadMany t a l = .ok (vs, u)) : Moves i s u := by
  induction l generalizing t a vs with
  | nil => cases h; exact hm
  | cons q rest ih =>
    unfold Machine.loadMany at h
    split at h
    · cases h
    · next v t' hl =>
      split at h
      · cases h
      · next vs' u' hr =>
        cases h
        exact ih (hm.load hl) hr

theorem Moves.storeMany {i : Instr} {l : List Word} {s t u : State} {a : Word} (hm : Moves i s t)
    (h : Machine.storeMany t a l = .ok u) : Moves i s u := by
  induction l generalizing t a with
  | nil => cases h; exact hm
  | cons q rest ih =>
    unfold Machine.storeMany at h
    split at h
    · cases h
    · next t' hl => exact ih (hm.store hl) h

theorem Moves.writeRegs {i : Instr} {l : List (Reg × Word)} {s t : State} (h : i.profile = .a32) (hm : Moves i s t) :
    Moves i s (Machine.writeRegs t l) := by
  induction l generalizing t with
  | nil => exact hm
  | cons p rest ih => exact ih (hm.writeReg h _ _)

theorem Moves.push16 {i : Instr} {s t u : State} {v : Half} (h : i.profile = .n8) (hm : Moves i s t)
    (hp : t.push16 v = .ok u) : Moves i s u := by
  unfold State.push16 at hp
  split at hp
  · cases hp
  · next t1 h1 =>
    split at hp
    · cases hp
    · next t2 h2 =>
      cases hp
      exact ((hm.store8 h1).store8 h2).then (.sp h _ _)

theorem Moves.pop16 {i : Instr} {s t u : State} {v : Half} (h : i.profile = .n8) (hm : Moves i s t)
    (hp : t.pop16 = .ok (v, u)) : Moves i s u := by
  unfold State.pop16 at hp
  split at hp
  · cases hp
  · next lo t1 h1 =>
    split at hp
    · cases hp
    · next hi t2 h2 =>
      cases hp
      exact ((hm.load8 h1).load8 h2).then (.sp h _ _)

/-! ## A32 -/

theorem a32Run_done {cond : Cond} {i : Instr} {s : State} {body : State → Result} (h : i.profile = .a32)
    (hb : Done i s (body s)) : Done i s (a32Run cond i s body) := by
  unfold a32Run
  split
  · split
    · exact fault_done ⟨s.site, rfl, rfl, rfl, Nat.le_refl _, .inr ⟨h, .inl rfl⟩⟩
    · exact hb
  · exact complete_done (row := .condFailed) (.one (.advance4 h _))

theorem dataProc_done {i : Instr} (h : i.profile = .a32) (op : DpOp) (sf : Bool) (rd : Reg) (n : Word) (o : Shifted)
    (rs : Bool) (s : State) : Done i s (dataProc op sf rd n o rs s) := by
  unfold dataProc
  refine complete_done ?_
  have h1 : Moves i s s.advance4 := .one (.advance4 h _)
  have h2 : Moves i s (if op.isCompare then s.advance4
      else s.advance4.writeReg rd (dpCompute op n o.value o.carry (flagC s.sw)).value) := by
    split
    · exact h1
    · exact h1.writeReg h _ _
  split
  · exact h2.then (.flags h _ _)
  · exact h2

theorem multiply_done {i : Instr} (h : i.profile = .a32) (sf : Bool) (rd : Reg) (v : Word) (row : CostRow) (s : State) :
    Done i s (multiply sf rd v row s) := by
  unfold multiply
  refine complete_done ?_
  have h1 : Moves i s (s.advance4.writeReg rd v) := (Moves.one (.advance4 h _)).writeReg h _ _
  dsimp only
  split
  · exact (h1.then (.flags h _ (mulFlags v s.draws))).then (.draws h _ _)
  · exact h1

theorem multiplyLong_done {i : Instr} (h : i.profile = .a32) (sf : Bool) (rdHi rdLo : Reg) (v : DWord) (row : CostRow)
    (s : State) : Done i s (multiplyLong sf rdHi rdLo v row s) := by
  unfold multiplyLong
  refine complete_done ?_
  have h1 : Moves i s ((s.advance4.writeReg rdLo (v.extractLsb' 0 32)).writeReg rdHi (v.extractLsb' 32 32)) :=
    ((Moves.one (.advance4 h _)).writeReg h _ _).writeReg h _ _
  dsimp only
  split
  · exact (h1.then (.flags h _ (mulLongFlags v s.draws))).then (.draws h _ _)
  · exact h1

theorem moveFromStatus_done {i : Instr} (h : i.profile = .a32) (rd : Reg) (s : State) :
    Done i s (moveFromStatus rd s) := complete_done ((Moves.one (.advance4 h _)).writeReg h _ _)

theorem moveToStatus_done {i : Instr} (h : i.profile = .a32) (mask : BitVec 4) (v : Word) (s : State) :
    Done i s (moveToStatus mask v s) := by
  unfold moveToStatus
  dsimp only
  split
  · next hM =>
    refine complete_done ((Moves.one (.advance4 h s)).then (.status h _ (statusWrite s.sw mask v) ?_ ?_))
    · simp
    · simpa using hM
  · exact fault_done ⟨s.site, rfl, rfl, rfl, Nat.le_refl _, .inr ⟨h, .inr rfl⟩⟩

theorem branch_done {i : Instr} (h : i.profile = .a32) (off : BitVec 24) (s : State) : Done i s (branch off s) :=
  complete_done (Moves.writeReg h .refl _ _)

theorem branchLink_done {i : Instr} (h : i.profile = .a32) (off : BitVec 24) (s : State) :
    Done i s (branchLink off s) := complete_done ((Moves.writeReg h .refl _ _).writeReg h _ _)

theorem branchExchange_done {i : Instr} (h : ∃ c r, i = .bx c r) (rm : Reg) (s : State) :
    Done i s (branchExchange rm s) := complete_done (.one (.exchange h _ _ _))

theorem loadSingle_done {i : Instr} (h : i.profile = .a32) (k : LoadKind) (rd rn : Reg) (m : Addr) (s : State) :
    Done i s (loadSingle k rd rn m s) := by
  refine andThen_done (raised_load (.refl s)) fun v hv => complete_done ?_
  have h1 : Moves i s v.2.advance4 := (Moves.load .refl hv).then (.advance4 h _)
  refine Moves.writeReg h ?_ _ _
  split
  · exact h1.writeReg h _ _
  · exact h1

theorem storeSingle_done {i : Instr} (h : i.profile = .a32) (k : StoreKind) (rd rn : Reg) (m : Addr) (s : State) :
    Done i s (storeSingle k rd rn m s) := by
  refine andThen_done (raised_store (.refl s)) fun v hv => complete_done ?_
  have h1 : Moves i s v.advance4 := (Moves.store .refl hv).then (.advance4 h _)
  split
  · exact h1.writeReg h _ _
  · exact h1

theorem loadMultiple_done {i : Instr} (h : i.profile = .a32) (mode : BlockMode) (wb : Bool) (rn : Reg)
    (list : BitVec 16) (s : State) : Done i s (loadMultiple mode wb rn list s) := by
  refine andThen_done (raised_loadMany (.refl s)) fun v hv => complete_done ?_
  have h1 : Moves i s v.2.advance4 := (Moves.loadMany .refl hv).then (.advance4 h _)
  refine Moves.writeRegs h ?_
  split
  · exact h1.writeReg h _ _
  · exact h1

theorem storeMultiple_done {i : Instr} (h : i.profile = .a32) (mode : BlockMode) (wb : Bool) (rn : Reg)
    (list : BitVec 16) (s : State) : Done i s (storeMultiple mode wb rn list s) := by
  refine andThen_done (raised_storeMany (.refl s)) fun v hv => complete_done ?_
  have h1 : Moves i s v.advance4 := (Moves.storeMany .refl hv).then (.advance4 h _)
  split
  · exact h1.writeReg h _ _
  · exact h1

theorem swap_done {i : Instr} (h : i.profile = .a32) (k : LoadKind) (rn rd rm : Reg) (s : State) :
    Done i s (swap k rn rd rm s) := by
  refine andThen_done (raised_load (.refl s)) fun v hv => andThen_done (raised_store (Accessed.load (.refl s) hv)) fun t ht => complete_done ?_
  exact (((Moves.load .refl hv).store ht).then (.advance4 h _)).writeReg h _ _

/-! ## N8 -/

/-- The register array moves that leave F[3:0] alone. -/
theorem Moves.set8 {i : Instr} {s t : State} (h : i.profile = .n8) (hm : Moves i s t) {r : R8} (hr : r ≠ .f)
    (v : Byte) : Moves i s (t.set8 r v) := by
  refine hm.then (.n8 h _ _ (.inr fun j _ => ?_))
  cases r <;> first | rfl | exact absurd rfl hr

theorem Moves.setFlagsN8 {i : Instr} {s t : State} (h : i.profile = .n8) (hm : Moves i s t) (u : FlagsN8) :
    Moves i s (t.setFlagsN8 u) :=
  hm.then (.n8 h _ _ (.inr fun j hj => setFlagsN8_getLsbD _ _ j hj))

theorem Moves.apply8 {i : Instr} {s t : State} (h : i.profile = .n8) (hm : Moves i s t) {r : R8} (hr : r ≠ .f)
    (o : Out8) : Moves i s (t.apply8 r o) := (hm.set8 h hr _).setFlagsN8 h _

theorem Moves.setPair {i : Instr} {s t : State} (h : i.profile = .n8) (hm : Moves i s t) {p : Pair}
    (hp : p ≠ .af ∨ i = .pop_af) (v : Half) : Moves i s (t.setPair p v) := by
  refine hm.then (.n8 h _ _ ?_)
  cases p with
  | af =>
    cases hp with
    | inl h => exact absurd rfl h
    | inr h => exact .inl h
  | _ => exact .inr fun j _ => rfl

theorem Moves.set16 {i : Instr} {s t : State} (h : i.profile = .n8) (hm : Moves i s t) (r : R16) (v : Half) :
    Moves i s (t.set16 r v) := by
  cases r with
  | sp => exact hm.then (.sp h _ _)
  | _ => exact hm.setPair h (.inl (by decide)) v

theorem n8Done_done {i : Instr} {s u : State} (h : i.profile = .n8) (hm : Moves i s u) (len : Nat) (row : CostRow) :
    Done i s (n8Done len row u) := complete_done (hm.then (.pc h _ _))

theorem jump_done {i : Instr} {s u : State} (h : i.profile = .n8) (hm : Moves i s u) (target : Half) (row : CostRow) :
    Done i s (jump target row u) := complete_done (hm.then (.pc h _ _))


theorem ldRegReg_done {i : Instr} (h : i.profile = .n8) {dst : R8} (hr : dst ≠ .f) (src : R8) (s : State) : Done i s (ldRegReg dst src s) :=
  n8Done_done h (Moves.set8 h .refl hr _) _ _

theorem ldRegHl_done {i : Instr} (h : i.profile = .n8) {dst : R8} (hr : dst ≠ .f) (s : State) : Done i s (ldRegHl dst s) :=
  andThen_done (raised_load8 (.refl s)) fun _ hv => n8Done_done h ((Moves.load8 .refl hv).set8 h hr _) _ _

theorem ldHlReg_done {i : Instr} (h : i.profile = .n8) (src : R8) (s : State) : Done i s (ldHlReg src s) :=
  andThen_done (raised_store8 (.refl s)) fun _ hv => n8Done_done h (Moves.store8 .refl hv) _ _

theorem ldRegByte_done {i : Instr} (h : i.profile = .n8) {dst : R8} (hr : dst ≠ .f) (d8 : Byte) (s : State) : Done i s (ldRegByte dst d8 s) :=
  n8Done_done h (Moves.set8 h .refl hr _) _ _

theorem ldHlByte_done {i : Instr} (h : i.profile = .n8) (d8 : Byte) (s : State) : Done i s (ldHlByte d8 s) :=
  andThen_done (raised_store8 (.refl s)) fun _ hv => n8Done_done h (Moves.store8 .refl hv) _ _

theorem loadA_done {i : Instr} (h : i.profile = .n8) (a : Half) (len : Nat) (row : CostRow) (s : State) : Done i s (loadA a len row s) :=
  andThen_done (raised_load8 (.refl s)) fun _ hv => n8Done_done h ((Moves.load8 .refl hv).set8 h (by decide) _) _ _

theorem storeA_done {i : Instr} (h : i.profile = .n8) (a : Half) (len : Nat) (row : CostRow) (s : State) : Done i s (storeA a len row s) :=
  andThen_done (raised_store8 (.refl s)) fun _ hv => n8Done_done h (Moves.store8 .refl hv) _ _

theorem loadAStep_done {i : Instr} (h : i.profile = .n8) (step : Half) (s : State) : Done i s (loadAStep step s) :=
  andThen_done (raised_load8 (.refl s)) fun _ hv =>
    n8Done_done h (((Moves.load8 .refl hv).set8 h (by decide) _).setPair h (.inl (by decide)) _) _ _

theorem storeAStep_done {i : Instr} (h : i.profile = .n8) (step : Half) (s : State) : Done i s (storeAStep step s) :=
  andThen_done (raised_store8 (.refl s)) fun _ hv => n8Done_done h ((Moves.store8 .refl hv).setPair h (.inl (by decide)) _) _ _

theorem ldReg16_done {i : Instr} (h : i.profile = .n8) (r : R16) (v : Half) (s : State) : Done i s (ldReg16 r v s) :=
  n8Done_done h (Moves.set16 h .refl _ _) _ _

theorem storeSp_done {i : Instr} (h : i.profile = .n8) (a : Half) (s : State) : Done i s (storeSp a s) :=
  andThen_done (raised_store8 (.refl s)) fun _ hv => andThen_done (raised_store8 (Accessed.store8 (.refl s) hv)) fun _ hw => n8Done_done h ((Moves.store8 .refl hv).store8 hw) _ _

theorem ldSpHl_done {i : Instr} (h : i.profile = .n8)  (s : State) : Done i s (ldSpHl s) :=
  n8Done_done h (.one (.sp h _ _)) _ _

theorem push_done {i : Instr} (h : i.profile = .n8) (p : Pair) (s : State) : Done i s (push p s) :=
  andThen_done (raised_push16 (.refl s)) fun _ hv => n8Done_done h (Moves.push16 h .refl hv) _ _

theorem pop_done {i : Instr} (h : i.profile = .n8) {p : Pair} (hp : p ≠ .af ∨ i = .pop_af) (s : State) : Done i s (pop p s) :=
  andThen_done (raised_pop16 (.refl s)) fun _ hv => n8Done_done h ((Moves.pop16 h .refl hv).setPair h hp _) _ _

theorem aluReg_done {i : Instr} (h : i.profile = .n8) (op : AluOp) (r : R8) (s : State) : Done i s (aluReg op r s) :=
  n8Done_done h (Moves.apply8 h .refl (by decide) _) _ _

theorem aluHl_done {i : Instr} (h : i.profile = .n8) (op : AluOp) (s : State) : Done i s (aluHl op s) :=
  andThen_done (raised_load8 (.refl s)) fun _ hv => n8Done_done h ((Moves.load8 .refl hv).apply8 h (by decide) _) _ _

theorem aluByte_done {i : Instr} (h : i.profile = .n8) (op : AluOp) (d8 : Byte) (s : State) : Done i s (aluByte op d8 s) :=
  n8Done_done h (Moves.apply8 h .refl (by decide) _) _ _

theorem incReg_done {i : Instr} (h : i.profile = .n8) {r : R8} (hr : r ≠ .f) (s : State) : Done i s (incReg r s) :=
  n8Done_done h (Moves.apply8 h .refl hr _) _ _

theorem decReg_done {i : Instr} (h : i.profile = .n8) {r : R8} (hr : r ≠ .f) (s : State) : Done i s (decReg r s) :=
  n8Done_done h (Moves.apply8 h .refl hr _) _ _

theorem modifyHl_done {i : Instr} (h : i.profile = .n8) (f : Byte → Out8) (len : Nat) (row : CostRow) (s : State) : Done i s (modifyHl f len row s) :=
  andThen_done (raised_load8 (.refl s)) fun _ hv => andThen_done (raised_store8 (Accessed.load8 (.refl s) hv)) fun _ hw =>
    n8Done_done h (((Moves.load8 .refl hv).store8 hw).setFlagsN8 h _) _ _

theorem incHl_done {i : Instr} (h : i.profile = .n8)  (s : State) : Done i s (incHl s) :=
  modifyHl_done h _ _ _ s

theorem decHl_done {i : Instr} (h : i.profile = .n8)  (s : State) : Done i s (decHl s) :=
  modifyHl_done h _ _ _ s

theorem step16_done {i : Instr} (h : i.profile = .n8) (r : R16) (step : Half) (s : State) : Done i s (step16 r step s) :=
  n8Done_done h (Moves.set16 h .refl _ _) _ _

theorem addHl_done {i : Instr} (h : i.profile = .n8) (r : R16) (s : State) : Done i s (addHl r s) :=
  n8Done_done h ((Moves.setPair h .refl (.inl (by decide)) _).setFlagsN8 h _) _ _

theorem addSp_done {i : Instr} (h : i.profile = .n8) (e8 : Byte) (s : State) : Done i s (addSp e8 s) :=
  n8Done_done h ((Moves.one (.sp h _ _)).setFlagsN8 h _) _ _

theorem ldHlSp_done {i : Instr} (h : i.profile = .n8) (e8 : Byte) (s : State) : Done i s (ldHlSp e8 s) :=
  n8Done_done h ((Moves.setPair h .refl (.inl (by decide)) _).setFlagsN8 h _) _ _

theorem decimalAdjust_done {i : Instr} (h : i.profile = .n8)  (s : State) : Done i s (decimalAdjust s) :=
  n8Done_done h (Moves.apply8 h .refl (by decide) _) _ _

theorem complementA_done {i : Instr} (h : i.profile = .n8)  (s : State) : Done i s (complementA s) :=
  n8Done_done h (Moves.apply8 h .refl (by decide) _) _ _

theorem setCarry_done {i : Instr} (h : i.profile = .n8)  (s : State) : Done i s (setCarry s) :=
  n8Done_done h (Moves.setFlagsN8 h .refl _) _ _

theorem complementCarry_done {i : Instr} (h : i.profile = .n8)  (s : State) : Done i s (complementCarry s) :=
  n8Done_done h (Moves.setFlagsN8 h .refl _) _ _

theorem rotA_done {i : Instr} (h : i.profile = .n8) (op : RotOp) (s : State) : Done i s (rotA op s) :=
  n8Done_done h (Moves.apply8 h .refl (by decide) _) _ _

theorem cbRotReg_done {i : Instr} (h : i.profile = .n8) (op : RotOp) {r : R8} (hr : r ≠ .f) (s : State) : Done i s (cbRotReg op r s) :=
  n8Done_done h (Moves.apply8 h .refl hr _) _ _

theorem cbRotHl_done {i : Instr} (h : i.profile = .n8) (op : RotOp) (s : State) : Done i s (cbRotHl op s) :=
  modifyHl_done h _ _ _ s

theorem bitReg_done {i : Instr} (h : i.profile = .n8) (b : Nat) (r : R8) (s : State) : Done i s (bitReg b r s) :=
  n8Done_done h (Moves.setFlagsN8 h .refl _) _ _

theorem bitHl_done {i : Instr} (h : i.profile = .n8) (b : Nat) (s : State) : Done i s (bitHl b s) :=
  andThen_done (raised_load8 (.refl s)) fun _ hv => n8Done_done h ((Moves.load8 .refl hv).setFlagsN8 h _) _ _

theorem putBitReg_done {i : Instr} (h : i.profile = .n8) (b : Nat) (v : Bool) {r : R8} (hr : r ≠ .f) (s : State) : Done i s (putBitReg b v r s) :=
  n8Done_done h (Moves.set8 h .refl hr _) _ _

theorem putBitHl_done {i : Instr} (h : i.profile = .n8) (b : Nat) (v : Bool) (s : State) : Done i s (putBitHl b v s) :=
  modifyHl_done h _ _ _ s

theorem jumpIf_done {i : Instr} (h : i.profile = .n8) (cc : CC) (target : Half) (len : Nat) (row : Bool → CostRow) (s : State) : Done i s (jumpIf cc target len row s) :=
  by
  unfold jumpIf
  split
  · exact jump_done h .refl _ _
  · exact n8Done_done h .refl _ _

theorem call_done {i : Instr} (h : i.profile = .n8) (target : Half) (len : Nat) (row : CostRow) (s : State) : Done i s (call target len row s) :=
  andThen_done (raised_push16 (.refl s)) fun _ hv => jump_done h (Moves.push16 h .refl hv) _ _

theorem callIf_done {i : Instr} (h : i.profile = .n8) (cc : CC) (target : Half) (s : State) : Done i s (callIf cc target s) :=
  by
  unfold callIf
  split
  · exact call_done h _ _ _ s
  · exact n8Done_done h .refl _ _

theorem ret_done {i : Instr} (h : i.profile = .n8) (row : CostRow) (s : State) : Done i s (ret row s) :=
  andThen_done (raised_pop16 (.refl s)) fun _ hv => jump_done h (Moves.pop16 h .refl hv) _ _

theorem retIf_done {i : Instr} (h : i.profile = .n8) (cc : CC) (s : State) : Done i s (retIf cc s) :=
  by
  unfold retIf
  split
  · exact ret_done h _ s
  · exact n8Done_done h .refl _ _

theorem halt_done {i : Instr} (h : i.profile = .n8) (hi : i = .halt) (s : State) : Done i s (halt s) :=
  n8Done_done h (.one (.halt hi _)) _ _

/-- What every instruction can do. -/
theorem exec_done (i : Instr) (s : State) : Done i s (exec i s) := by
  cases i with
  | b _ _ => exact a32Run_done rfl (branch_done rfl _ _)
  | bl _ _ => exact a32Run_done rfl (branchLink_done rfl _ _)
  | bx _ _ => exact a32Run_done rfl (branchExchange_done ⟨_, _, rfl⟩ _ _)
  | andImm _ _ _ _ _ => exact a32Run_done rfl (dataProc_done rfl _ _ _ _ _ _ _)
  | andShift _ _ _ _ _ => exact a32Run_done rfl (dataProc_done rfl _ _ _ _ _ _ _)
  | andShiftReg _ _ _ _ _ => exact a32Run_done rfl (dataProc_done rfl _ _ _ _ _ _ _)
  | eorImm _ _ _ _ _ => exact a32Run_done rfl (dataProc_done rfl _ _ _ _ _ _ _)
  | eorShift _ _ _ _ _ => exact a32Run_done rfl (dataProc_done rfl _ _ _ _ _ _ _)
  | eorShiftReg _ _ _ _ _ => exact a32Run_done rfl (dataProc_done rfl _ _ _ _ _ _ _)
  | subImm _ _ _ _ _ => exact a32Run_done rfl (dataProc_done rfl _ _ _ _ _ _ _)
  | subShift _ _ _ _ _ => exact a32Run_done rfl (dataProc_done rfl _ _ _ _ _ _ _)
  | subShiftReg _ _ _ _ _ => exact a32Run_done rfl (dataProc_done rfl _ _ _ _ _ _ _)
  | rsbImm _ _ _ _ _ => exact a32Run_done rfl (dataProc_done rfl _ _ _ _ _ _ _)
  | rsbShift _ _ _ _ _ => exact a32Run_done rfl (dataProc_done rfl _ _ _ _ _ _ _)
  | rsbShiftReg _ _ _ _ _ => exact a32Run_done rfl (dataProc_done rfl _ _ _ _ _ _ _)
  | addImm _ _ _ _ _ => exact a32Run_done rfl (dataProc_done rfl _ _ _ _ _ _ _)
  | addShift _ _ _ _ _ => exact a32Run_done rfl (dataProc_done rfl _ _ _ _ _ _ _)
  | addShiftReg _ _ _ _ _ => exact a32Run_done rfl (dataProc_done rfl _ _ _ _ _ _ _)
  | adcImm _ _ _ _ _ => exact a32Run_done rfl (dataProc_done rfl _ _ _ _ _ _ _)
  | adcShift _ _ _ _ _ => exact a32Run_done rfl (dataProc_done rfl _ _ _ _ _ _ _)
  | adcShiftReg _ _ _ _ _ => exact a32Run_done rfl (dataProc_done rfl _ _ _ _ _ _ _)
  | sbcImm _ _ _ _ _ => exact a32Run_done rfl (dataProc_done rfl _ _ _ _ _ _ _)
  | sbcShift _ _ _ _ _ => exact a32Run_done rfl (dataProc_done rfl _ _ _ _ _ _ _)
  | sbcShiftReg _ _ _ _ _ => exact a32Run_done rfl (dataProc_done rfl _ _ _ _ _ _ _)
  | rscImm _ _ _ _ _ => exact a32Run_done rfl (dataProc_done rfl _ _ _ _ _ _ _)
  | rscShift _ _ _ _ _ => exact a32Run_done rfl (dataProc_done rfl _ _ _ _ _ _ _)
  | rscShiftReg _ _ _ _ _ => exact a32Run_done rfl (dataProc_done rfl _ _ _ _ _ _ _)
  | tstImm _ _ _ => exact a32Run_done rfl (dataProc_done rfl _ _ _ _ _ _ _)
  | tstShift _ _ _ => exact a32Run_done rfl (dataProc_done rfl _ _ _ _ _ _ _)
  | tstShiftReg _ _ _ => exact a32Run_done rfl (dataProc_done rfl _ _ _ _ _ _ _)
  | teqImm _ _ _ => exact a32Run_done rfl (dataProc_done rfl _ _ _ _ _ _ _)
  | teqShift _ _ _ => exact a32Run_done rfl (dataProc_done rfl _ _ _ _ _ _ _)
  | teqShiftReg _ _ _ => exact a32Run_done rfl (dataProc_done rfl _ _ _ _ _ _ _)
  | cmpImm _ _ _ => exact a32Run_done rfl (dataProc_done rfl _ _ _ _ _ _ _)
  | cmpShift _ _ _ => exact a32Run_done rfl (dataProc_done rfl _ _ _ _ _ _ _)
  | cmpShiftReg _ _ _ => exact a32Run_done rfl (dataProc_done rfl _ _ _ _ _ _ _)
  | cmnImm _ _ _ => exact a32Run_done rfl (dataProc_done rfl _ _ _ _ _ _ _)
  | cmnShift _ _ _ => exact a32Run_done rfl (dataProc_done rfl _ _ _ _ _ _ _)
  | cmnShiftReg _ _ _ => exact a32Run_done rfl (dataProc_done rfl _ _ _ _ _ _ _)
  | orrImm _ _ _ _ _ => exact a32Run_done rfl (dataProc_done rfl _ _ _ _ _ _ _)
  | orrShift _ _ _ _ _ => exact a32Run_done rfl (dataProc_done rfl _ _ _ _ _ _ _)
  | orrShiftReg _ _ _ _ _ => exact a32Run_done rfl (dataProc_done rfl _ _ _ _ _ _ _)
  | movImm _ _ _ _ => exact a32Run_done rfl (dataProc_done rfl _ _ _ _ _ _ _)
  | movShift _ _ _ _ => exact a32Run_done rfl (dataProc_done rfl _ _ _ _ _ _ _)
  | movShiftReg _ _ _ _ => exact a32Run_done rfl (dataProc_done rfl _ _ _ _ _ _ _)
  | bicImm _ _ _ _ _ => exact a32Run_done rfl (dataProc_done rfl _ _ _ _ _ _ _)
  | bicShift _ _ _ _ _ => exact a32Run_done rfl (dataProc_done rfl _ _ _ _ _ _ _)
  | bicShiftReg _ _ _ _ _ => exact a32Run_done rfl (dataProc_done rfl _ _ _ _ _ _ _)
  | mvnImm _ _ _ _ => exact a32Run_done rfl (dataProc_done rfl _ _ _ _ _ _ _)
  | mvnShift _ _ _ _ => exact a32Run_done rfl (dataProc_done rfl _ _ _ _ _ _ _)
  | mvnShiftReg _ _ _ _ => exact a32Run_done rfl (dataProc_done rfl _ _ _ _ _ _ _)
  | mrs _ _ => exact a32Run_done rfl (moveFromStatus_done rfl _ _)
  | msrReg _ _ _ => exact a32Run_done rfl (moveToStatus_done rfl _ _ _)
  | msrImm _ _ _ => exact a32Run_done rfl (moveToStatus_done rfl _ _ _)
  | mul _ _ _ _ _ => exact a32Run_done rfl (multiply_done rfl _ _ _ _ _)
  | mla _ _ _ _ _ _ => exact a32Run_done rfl (multiply_done rfl _ _ _ _ _)
  | umull _ _ _ _ _ _ => exact a32Run_done rfl (multiplyLong_done rfl _ _ _ _ _ _)
  | umlal _ _ _ _ _ _ => exact a32Run_done rfl (multiplyLong_done rfl _ _ _ _ _ _)
  | smull _ _ _ _ _ _ => exact a32Run_done rfl (multiplyLong_done rfl _ _ _ _ _ _)
  | smlal _ _ _ _ _ _ => exact a32Run_done rfl (multiplyLong_done rfl _ _ _ _ _ _)
  | swp _ _ _ _ => exact a32Run_done rfl (swap_done rfl _ _ _ _ _)
  | swpb _ _ _ _ => exact a32Run_done rfl (swap_done rfl _ _ _ _ _)
  | ldrImmPre _ _ _ _ _ _ => exact a32Run_done rfl (loadSingle_done rfl _ _ _ _ _)
  | ldrImmPost _ _ _ _ _ => exact a32Run_done rfl (loadSingle_done rfl _ _ _ _ _)
  | ldrRegPre _ _ _ _ _ _ => exact a32Run_done rfl (loadSingle_done rfl _ _ _ _ _)
  | ldrRegPost _ _ _ _ _ => exact a32Run_done rfl (loadSingle_done rfl _ _ _ _ _)
  | ldrtImm _ _ _ _ _ => exact a32Run_done rfl (loadSingle_done rfl _ _ _ _ _)
  | ldrtReg _ _ _ _ _ => exact a32Run_done rfl (loadSingle_done rfl _ _ _ _ _)
  | ldrbImmPre _ _ _ _ _ _ => exact a32Run_done rfl (loadSingle_done rfl _ _ _ _ _)
  | ldrbImmPost _ _ _ _ _ => exact a32Run_done rfl (loadSingle_done rfl _ _ _ _ _)
  | ldrbRegPre _ _ _ _ _ _ => exact a32Run_done rfl (loadSingle_done rfl _ _ _ _ _)
  | ldrbRegPost _ _ _ _ _ => exact a32Run_done rfl (loadSingle_done rfl _ _ _ _ _)
  | ldrbtImm _ _ _ _ _ => exact a32Run_done rfl (loadSingle_done rfl _ _ _ _ _)
  | ldrbtReg _ _ _ _ _ => exact a32Run_done rfl (loadSingle_done rfl _ _ _ _ _)
  | strImmPre _ _ _ _ _ _ => exact a32Run_done rfl (storeSingle_done rfl _ _ _ _ _)
  | strImmPost _ _ _ _ _ => exact a32Run_done rfl (storeSingle_done rfl _ _ _ _ _)
  | strRegPre _ _ _ _ _ _ => exact a32Run_done rfl (storeSingle_done rfl _ _ _ _ _)
  | strRegPost _ _ _ _ _ => exact a32Run_done rfl (storeSingle_done rfl _ _ _ _ _)
  | strtImm _ _ _ _ _ => exact a32Run_done rfl (storeSingle_done rfl _ _ _ _ _)
  | strtReg _ _ _ _ _ => exact a32Run_done rfl (storeSingle_done rfl _ _ _ _ _)
  | strbImmPre _ _ _ _ _ _ => exact a32Run_done rfl (storeSingle_done rfl _ _ _ _ _)
  | strbImmPost _ _ _ _ _ => exact a32Run_done rfl (storeSingle_done rfl _ _ _ _ _)
  | strbRegPre _ _ _ _ _ _ => exact a32Run_done rfl (storeSingle_done rfl _ _ _ _ _)
  | strbRegPost _ _ _ _ _ => exact a32Run_done rfl (storeSingle_done rfl _ _ _ _ _)
  | strbtImm _ _ _ _ _ => exact a32Run_done rfl (storeSingle_done rfl _ _ _ _ _)
  | strbtReg _ _ _ _ _ => exact a32Run_done rfl (storeSingle_done rfl _ _ _ _ _)
  | ldrhImm _ _ _ _ _ _ _ => exact a32Run_done rfl (loadSingle_done rfl _ _ _ _ _)
  | ldrhReg _ _ _ _ _ _ _ => exact a32Run_done rfl (loadSingle_done rfl _ _ _ _ _)
  | strhImm _ _ _ _ _ _ _ => exact a32Run_done rfl (storeSingle_done rfl _ _ _ _ _)
  | strhReg _ _ _ _ _ _ _ => exact a32Run_done rfl (storeSingle_done rfl _ _ _ _ _)
  | ldrsbImm _ _ _ _ _ _ _ => exact a32Run_done rfl (loadSingle_done rfl _ _ _ _ _)
  | ldrsbReg _ _ _ _ _ _ _ => exact a32Run_done rfl (loadSingle_done rfl _ _ _ _ _)
  | ldrshImm _ _ _ _ _ _ _ => exact a32Run_done rfl (loadSingle_done rfl _ _ _ _ _)
  | ldrshReg _ _ _ _ _ _ _ => exact a32Run_done rfl (loadSingle_done rfl _ _ _ _ _)
  | ldmda _ _ _ _ => exact a32Run_done rfl (loadMultiple_done rfl _ _ _ _ _)
  | ldmia _ _ _ _ => exact a32Run_done rfl (loadMultiple_done rfl _ _ _ _ _)
  | ldmdb _ _ _ _ => exact a32Run_done rfl (loadMultiple_done rfl _ _ _ _ _)
  | ldmib _ _ _ _ => exact a32Run_done rfl (loadMultiple_done rfl _ _ _ _ _)
  | stmda _ _ _ _ => exact a32Run_done rfl (storeMultiple_done rfl _ _ _ _ _)
  | stmia _ _ _ _ => exact a32Run_done rfl (storeMultiple_done rfl _ _ _ _ _)
  | stmdb _ _ _ _ => exact a32Run_done rfl (storeMultiple_done rfl _ _ _ _ _)
  | stmib _ _ _ _ => exact a32Run_done rfl (storeMultiple_done rfl _ _ _ _ _)
  | nop => exact n8Done_done rfl .refl _ _
  | ld_bc_d16 _ => exact ldReg16_done rfl _ _ _
  | ld_mbc_a => exact storeA_done rfl _ _ _ _
  | inc_bc => exact step16_done rfl _ _ _
  | inc_b => exact incReg_done rfl (by decide) _
  | dec_b => exact decReg_done rfl (by decide) _
  | ld_b_d8 _ => exact ldRegByte_done rfl (by decide) _ _
  | rlca => exact rotA_done rfl _ _
  | ld_ma16_sp _ => exact storeSp_done rfl _ _
  | add_hl_bc => exact addHl_done rfl _ _
  | ld_a_mbc => exact loadA_done rfl _ _ _ _
  | dec_bc => exact step16_done rfl _ _ _
  | inc_c => exact incReg_done rfl (by decide) _
  | dec_c => exact decReg_done rfl (by decide) _
  | ld_c_d8 _ => exact ldRegByte_done rfl (by decide) _ _
  | rrca => exact rotA_done rfl _ _
  | ld_de_d16 _ => exact ldReg16_done rfl _ _ _
  | ld_mde_a => exact storeA_done rfl _ _ _ _
  | inc_de => exact step16_done rfl _ _ _
  | inc_d => exact incReg_done rfl (by decide) _
  | dec_d => exact decReg_done rfl (by decide) _
  | ld_d_d8 _ => exact ldRegByte_done rfl (by decide) _ _
  | rla => exact rotA_done rfl _ _
  | jr_e8 _ => exact jump_done rfl .refl _ _
  | add_hl_de => exact addHl_done rfl _ _
  | ld_a_mde => exact loadA_done rfl _ _ _ _
  | dec_de => exact step16_done rfl _ _ _
  | inc_e => exact incReg_done rfl (by decide) _
  | dec_e => exact decReg_done rfl (by decide) _
  | ld_e_d8 _ => exact ldRegByte_done rfl (by decide) _ _
  | rra => exact rotA_done rfl _ _
  | jr_nz_e8 _ => exact jumpIf_done rfl _ _ _ _ _
  | ld_hl_d16 _ => exact ldReg16_done rfl _ _ _
  | ld_mhli_a => exact storeAStep_done rfl _ _
  | inc_hl => exact step16_done rfl _ _ _
  | inc_h => exact incReg_done rfl (by decide) _
  | dec_h => exact decReg_done rfl (by decide) _
  | ld_h_d8 _ => exact ldRegByte_done rfl (by decide) _ _
  | daa => exact decimalAdjust_done rfl _
  | jr_z_e8 _ => exact jumpIf_done rfl _ _ _ _ _
  | add_hl_hl => exact addHl_done rfl _ _
  | ld_a_mhli => exact loadAStep_done rfl _ _
  | dec_hl => exact step16_done rfl _ _ _
  | inc_l => exact incReg_done rfl (by decide) _
  | dec_l => exact decReg_done rfl (by decide) _
  | ld_l_d8 _ => exact ldRegByte_done rfl (by decide) _ _
  | cpl => exact complementA_done rfl _
  | jr_nc_e8 _ => exact jumpIf_done rfl _ _ _ _ _
  | ld_sp_d16 _ => exact ldReg16_done rfl _ _ _
  | ld_mhld_a => exact storeAStep_done rfl _ _
  | inc_sp => exact step16_done rfl _ _ _
  | inc_mhl => exact incHl_done rfl _
  | dec_mhl => exact decHl_done rfl _
  | ld_mhl_d8 _ => exact ldHlByte_done rfl _ _
  | scf => exact setCarry_done rfl _
  | jr_c_e8 _ => exact jumpIf_done rfl _ _ _ _ _
  | add_hl_sp => exact addHl_done rfl _ _
  | ld_a_mhld => exact loadAStep_done rfl _ _
  | dec_sp => exact step16_done rfl _ _ _
  | inc_a => exact incReg_done rfl (by decide) _
  | dec_a => exact decReg_done rfl (by decide) _
  | ld_a_d8 _ => exact ldRegByte_done rfl (by decide) _ _
  | ccf => exact complementCarry_done rfl _
  | ld_b_b => exact ldRegReg_done rfl (by decide) _ _
  | ld_b_c => exact ldRegReg_done rfl (by decide) _ _
  | ld_b_d => exact ldRegReg_done rfl (by decide) _ _
  | ld_b_e => exact ldRegReg_done rfl (by decide) _ _
  | ld_b_h => exact ldRegReg_done rfl (by decide) _ _
  | ld_b_l => exact ldRegReg_done rfl (by decide) _ _
  | ld_b_mhl => exact ldRegHl_done rfl (by decide) _
  | ld_b_a => exact ldRegReg_done rfl (by decide) _ _
  | ld_c_b => exact ldRegReg_done rfl (by decide) _ _
  | ld_c_c => exact ldRegReg_done rfl (by decide) _ _
  | ld_c_d => exact ldRegReg_done rfl (by decide) _ _
  | ld_c_e => exact ldRegReg_done rfl (by decide) _ _
  | ld_c_h => exact ldRegReg_done rfl (by decide) _ _
  | ld_c_l => exact ldRegReg_done rfl (by decide) _ _
  | ld_c_mhl => exact ldRegHl_done rfl (by decide) _
  | ld_c_a => exact ldRegReg_done rfl (by decide) _ _
  | ld_d_b => exact ldRegReg_done rfl (by decide) _ _
  | ld_d_c => exact ldRegReg_done rfl (by decide) _ _
  | ld_d_d => exact ldRegReg_done rfl (by decide) _ _
  | ld_d_e => exact ldRegReg_done rfl (by decide) _ _
  | ld_d_h => exact ldRegReg_done rfl (by decide) _ _
  | ld_d_l => exact ldRegReg_done rfl (by decide) _ _
  | ld_d_mhl => exact ldRegHl_done rfl (by decide) _
  | ld_d_a => exact ldRegReg_done rfl (by decide) _ _
  | ld_e_b => exact ldRegReg_done rfl (by decide) _ _
  | ld_e_c => exact ldRegReg_done rfl (by decide) _ _
  | ld_e_d => exact ldRegReg_done rfl (by decide) _ _
  | ld_e_e => exact ldRegReg_done rfl (by decide) _ _
  | ld_e_h => exact ldRegReg_done rfl (by decide) _ _
  | ld_e_l => exact ldRegReg_done rfl (by decide) _ _
  | ld_e_mhl => exact ldRegHl_done rfl (by decide) _
  | ld_e_a => exact ldRegReg_done rfl (by decide) _ _
  | ld_h_b => exact ldRegReg_done rfl (by decide) _ _
  | ld_h_c => exact ldRegReg_done rfl (by decide) _ _
  | ld_h_d => exact ldRegReg_done rfl (by decide) _ _
  | ld_h_e => exact ldRegReg_done rfl (by decide) _ _
  | ld_h_h => exact ldRegReg_done rfl (by decide) _ _
  | ld_h_l => exact ldRegReg_done rfl (by decide) _ _
  | ld_h_mhl => exact ldRegHl_done rfl (by decide) _
  | ld_h_a => exact ldRegReg_done rfl (by decide) _ _
  | ld_l_b => exact ldRegReg_done rfl (by decide) _ _
  | ld_l_c => exact ldRegReg_done rfl (by decide) _ _
  | ld_l_d => exact ldRegReg_done rfl (by decide) _ _
  | ld_l_e => exact ldRegReg_done rfl (by decide) _ _
  | ld_l_h => exact ldRegReg_done rfl (by decide) _ _
  | ld_l_l => exact ldRegReg_done rfl (by decide) _ _
  | ld_l_mhl => exact ldRegHl_done rfl (by decide) _
  | ld_l_a => exact ldRegReg_done rfl (by decide) _ _
  | ld_mhl_b => exact ldHlReg_done rfl _ _
  | ld_mhl_c => exact ldHlReg_done rfl _ _
  | ld_mhl_d => exact ldHlReg_done rfl _ _
  | ld_mhl_e => exact ldHlReg_done rfl _ _
  | ld_mhl_h => exact ldHlReg_done rfl _ _
  | ld_mhl_l => exact ldHlReg_done rfl _ _
  | halt => exact halt_done rfl rfl _
  | ld_mhl_a => exact ldHlReg_done rfl _ _
  | ld_a_b => exact ldRegReg_done rfl (by decide) _ _
  | ld_a_c => exact ldRegReg_done rfl (by decide) _ _
  | ld_a_d => exact ldRegReg_done rfl (by decide) _ _
  | ld_a_e => exact ldRegReg_done rfl (by decide) _ _
  | ld_a_h => exact ldRegReg_done rfl (by decide) _ _
  | ld_a_l => exact ldRegReg_done rfl (by decide) _ _
  | ld_a_mhl => exact ldRegHl_done rfl (by decide) _
  | ld_a_a => exact ldRegReg_done rfl (by decide) _ _
  | add_a_b => exact aluReg_done rfl _ _ _
  | add_a_c => exact aluReg_done rfl _ _ _
  | add_a_d => exact aluReg_done rfl _ _ _
  | add_a_e => exact aluReg_done rfl _ _ _
  | add_a_h => exact aluReg_done rfl _ _ _
  | add_a_l => exact aluReg_done rfl _ _ _
  | add_a_mhl => exact aluHl_done rfl _ _
  | add_a_a => exact aluReg_done rfl _ _ _
  | adc_a_b => exact aluReg_done rfl _ _ _
  | adc_a_c => exact aluReg_done rfl _ _ _
  | adc_a_d => exact aluReg_done rfl _ _ _
  | adc_a_e => exact aluReg_done rfl _ _ _
  | adc_a_h => exact aluReg_done rfl _ _ _
  | adc_a_l => exact aluReg_done rfl _ _ _
  | adc_a_mhl => exact aluHl_done rfl _ _
  | adc_a_a => exact aluReg_done rfl _ _ _
  | sub_b => exact aluReg_done rfl _ _ _
  | sub_c => exact aluReg_done rfl _ _ _
  | sub_d => exact aluReg_done rfl _ _ _
  | sub_e => exact aluReg_done rfl _ _ _
  | sub_h => exact aluReg_done rfl _ _ _
  | sub_l => exact aluReg_done rfl _ _ _
  | sub_mhl => exact aluHl_done rfl _ _
  | sub_a => exact aluReg_done rfl _ _ _
  | sbc_a_b => exact aluReg_done rfl _ _ _
  | sbc_a_c => exact aluReg_done rfl _ _ _
  | sbc_a_d => exact aluReg_done rfl _ _ _
  | sbc_a_e => exact aluReg_done rfl _ _ _
  | sbc_a_h => exact aluReg_done rfl _ _ _
  | sbc_a_l => exact aluReg_done rfl _ _ _
  | sbc_a_mhl => exact aluHl_done rfl _ _
  | sbc_a_a => exact aluReg_done rfl _ _ _
  | and_b => exact aluReg_done rfl _ _ _
  | and_c => exact aluReg_done rfl _ _ _
  | and_d => exact aluReg_done rfl _ _ _
  | and_e => exact aluReg_done rfl _ _ _
  | and_h => exact aluReg_done rfl _ _ _
  | and_l => exact aluReg_done rfl _ _ _
  | and_mhl => exact aluHl_done rfl _ _
  | and_a => exact aluReg_done rfl _ _ _
  | xor_b => exact aluReg_done rfl _ _ _
  | xor_c => exact aluReg_done rfl _ _ _
  | xor_d => exact aluReg_done rfl _ _ _
  | xor_e => exact aluReg_done rfl _ _ _
  | xor_h => exact aluReg_done rfl _ _ _
  | xor_l => exact aluReg_done rfl _ _ _
  | xor_mhl => exact aluHl_done rfl _ _
  | xor_a => exact aluReg_done rfl _ _ _
  | or_b => exact aluReg_done rfl _ _ _
  | or_c => exact aluReg_done rfl _ _ _
  | or_d => exact aluReg_done rfl _ _ _
  | or_e => exact aluReg_done rfl _ _ _
  | or_h => exact aluReg_done rfl _ _ _
  | or_l => exact aluReg_done rfl _ _ _
  | or_mhl => exact aluHl_done rfl _ _
  | or_a => exact aluReg_done rfl _ _ _
  | cp_b => exact aluReg_done rfl _ _ _
  | cp_c => exact aluReg_done rfl _ _ _
  | cp_d => exact aluReg_done rfl _ _ _
  | cp_e => exact aluReg_done rfl _ _ _
  | cp_h => exact aluReg_done rfl _ _ _
  | cp_l => exact aluReg_done rfl _ _ _
  | cp_mhl => exact aluHl_done rfl _ _
  | cp_a => exact aluReg_done rfl _ _ _
  | ret_nz => exact retIf_done rfl _ _
  | pop_bc => exact pop_done rfl (.inl (by decide)) _
  | jp_nz_a16 _ => exact jumpIf_done rfl _ _ _ _ _
  | jp_a16 _ => exact jump_done rfl .refl _ _
  | call_nz_a16 _ => exact callIf_done rfl _ _ _
  | push_bc => exact push_done rfl _ _
  | add_a_d8 _ => exact aluByte_done rfl _ _ _
  | rst_00 => exact call_done rfl _ _ _ _
  | ret_z => exact retIf_done rfl _ _
  | ret => exact ret_done rfl _ _
  | jp_z_a16 _ => exact jumpIf_done rfl _ _ _ _ _
  | call_z_a16 _ => exact callIf_done rfl _ _ _
  | call_a16 _ => exact call_done rfl _ _ _ _
  | adc_a_d8 _ => exact aluByte_done rfl _ _ _
  | rst_08 => exact call_done rfl _ _ _ _
  | ret_nc => exact retIf_done rfl _ _
  | pop_de => exact pop_done rfl (.inl (by decide)) _
  | jp_nc_a16 _ => exact jumpIf_done rfl _ _ _ _ _
  | call_nc_a16 _ => exact callIf_done rfl _ _ _
  | push_de => exact push_done rfl _ _
  | sub_d8 _ => exact aluByte_done rfl _ _ _
  | rst_10 => exact call_done rfl _ _ _ _
  | ret_c => exact retIf_done rfl _ _
  | jp_c_a16 _ => exact jumpIf_done rfl _ _ _ _ _
  | call_c_a16 _ => exact callIf_done rfl _ _ _
  | sbc_a_d8 _ => exact aluByte_done rfl _ _ _
  | rst_18 => exact call_done rfl _ _ _ _
  | ldh_ma8_a _ => exact storeA_done rfl _ _ _ _
  | pop_hl => exact pop_done rfl (.inl (by decide)) _
  | ld_mc_a => exact storeA_done rfl _ _ _ _
  | push_hl => exact push_done rfl _ _
  | and_d8 _ => exact aluByte_done rfl _ _ _
  | rst_20 => exact call_done rfl _ _ _ _
  | add_sp_e8 _ => exact addSp_done rfl _ _
  | jp_hl => exact jump_done rfl .refl _ _
  | ld_ma16_a _ => exact storeA_done rfl _ _ _ _
  | xor_d8 _ => exact aluByte_done rfl _ _ _
  | rst_28 => exact call_done rfl _ _ _ _
  | ldh_a_ma8 _ => exact loadA_done rfl _ _ _ _
  | pop_af => exact pop_done rfl (.inr rfl) _
  | ld_a_mc => exact loadA_done rfl _ _ _ _
  | push_af => exact push_done rfl _ _
  | or_d8 _ => exact aluByte_done rfl _ _ _
  | rst_30 => exact call_done rfl _ _ _ _
  | ld_hl_sp_e8 _ => exact ldHlSp_done rfl _ _
  | ld_sp_hl => exact ldSpHl_done rfl _
  | ld_a_ma16 _ => exact loadA_done rfl _ _ _ _
  | cp_d8 _ => exact aluByte_done rfl _ _ _
  | rst_38 => exact call_done rfl _ _ _ _
  | rlc_b => exact cbRotReg_done rfl _ (by decide) _
  | rlc_c => exact cbRotReg_done rfl _ (by decide) _
  | rlc_d => exact cbRotReg_done rfl _ (by decide) _
  | rlc_e => exact cbRotReg_done rfl _ (by decide) _
  | rlc_h => exact cbRotReg_done rfl _ (by decide) _
  | rlc_l => exact cbRotReg_done rfl _ (by decide) _
  | rlc_mhl => exact cbRotHl_done rfl _ _
  | rlc_a => exact cbRotReg_done rfl _ (by decide) _
  | rrc_b => exact cbRotReg_done rfl _ (by decide) _
  | rrc_c => exact cbRotReg_done rfl _ (by decide) _
  | rrc_d => exact cbRotReg_done rfl _ (by decide) _
  | rrc_e => exact cbRotReg_done rfl _ (by decide) _
  | rrc_h => exact cbRotReg_done rfl _ (by decide) _
  | rrc_l => exact cbRotReg_done rfl _ (by decide) _
  | rrc_mhl => exact cbRotHl_done rfl _ _
  | rrc_a => exact cbRotReg_done rfl _ (by decide) _
  | rl_b => exact cbRotReg_done rfl _ (by decide) _
  | rl_c => exact cbRotReg_done rfl _ (by decide) _
  | rl_d => exact cbRotReg_done rfl _ (by decide) _
  | rl_e => exact cbRotReg_done rfl _ (by decide) _
  | rl_h => exact cbRotReg_done rfl _ (by decide) _
  | rl_l => exact cbRotReg_done rfl _ (by decide) _
  | rl_mhl => exact cbRotHl_done rfl _ _
  | rl_a => exact cbRotReg_done rfl _ (by decide) _
  | rr_b => exact cbRotReg_done rfl _ (by decide) _
  | rr_c => exact cbRotReg_done rfl _ (by decide) _
  | rr_d => exact cbRotReg_done rfl _ (by decide) _
  | rr_e => exact cbRotReg_done rfl _ (by decide) _
  | rr_h => exact cbRotReg_done rfl _ (by decide) _
  | rr_l => exact cbRotReg_done rfl _ (by decide) _
  | rr_mhl => exact cbRotHl_done rfl _ _
  | rr_a => exact cbRotReg_done rfl _ (by decide) _
  | sla_b => exact cbRotReg_done rfl _ (by decide) _
  | sla_c => exact cbRotReg_done rfl _ (by decide) _
  | sla_d => exact cbRotReg_done rfl _ (by decide) _
  | sla_e => exact cbRotReg_done rfl _ (by decide) _
  | sla_h => exact cbRotReg_done rfl _ (by decide) _
  | sla_l => exact cbRotReg_done rfl _ (by decide) _
  | sla_mhl => exact cbRotHl_done rfl _ _
  | sla_a => exact cbRotReg_done rfl _ (by decide) _
  | sra_b => exact cbRotReg_done rfl _ (by decide) _
  | sra_c => exact cbRotReg_done rfl _ (by decide) _
  | sra_d => exact cbRotReg_done rfl _ (by decide) _
  | sra_e => exact cbRotReg_done rfl _ (by decide) _
  | sra_h => exact cbRotReg_done rfl _ (by decide) _
  | sra_l => exact cbRotReg_done rfl _ (by decide) _
  | sra_mhl => exact cbRotHl_done rfl _ _
  | sra_a => exact cbRotReg_done rfl _ (by decide) _
  | swap_b => exact cbRotReg_done rfl _ (by decide) _
  | swap_c => exact cbRotReg_done rfl _ (by decide) _
  | swap_d => exact cbRotReg_done rfl _ (by decide) _
  | swap_e => exact cbRotReg_done rfl _ (by decide) _
  | swap_h => exact cbRotReg_done rfl _ (by decide) _
  | swap_l => exact cbRotReg_done rfl _ (by decide) _
  | swap_mhl => exact cbRotHl_done rfl _ _
  | swap_a => exact cbRotReg_done rfl _ (by decide) _
  | srl_b => exact cbRotReg_done rfl _ (by decide) _
  | srl_c => exact cbRotReg_done rfl _ (by decide) _
  | srl_d => exact cbRotReg_done rfl _ (by decide) _
  | srl_e => exact cbRotReg_done rfl _ (by decide) _
  | srl_h => exact cbRotReg_done rfl _ (by decide) _
  | srl_l => exact cbRotReg_done rfl _ (by decide) _
  | srl_mhl => exact cbRotHl_done rfl _ _
  | srl_a => exact cbRotReg_done rfl _ (by decide) _
  | bit_0_b => exact bitReg_done rfl _ _ _
  | bit_0_c => exact bitReg_done rfl _ _ _
  | bit_0_d => exact bitReg_done rfl _ _ _
  | bit_0_e => exact bitReg_done rfl _ _ _
  | bit_0_h => exact bitReg_done rfl _ _ _
  | bit_0_l => exact bitReg_done rfl _ _ _
  | bit_0_mhl => exact bitHl_done rfl _ _
  | bit_0_a => exact bitReg_done rfl _ _ _
  | bit_1_b => exact bitReg_done rfl _ _ _
  | bit_1_c => exact bitReg_done rfl _ _ _
  | bit_1_d => exact bitReg_done rfl _ _ _
  | bit_1_e => exact bitReg_done rfl _ _ _
  | bit_1_h => exact bitReg_done rfl _ _ _
  | bit_1_l => exact bitReg_done rfl _ _ _
  | bit_1_mhl => exact bitHl_done rfl _ _
  | bit_1_a => exact bitReg_done rfl _ _ _
  | bit_2_b => exact bitReg_done rfl _ _ _
  | bit_2_c => exact bitReg_done rfl _ _ _
  | bit_2_d => exact bitReg_done rfl _ _ _
  | bit_2_e => exact bitReg_done rfl _ _ _
  | bit_2_h => exact bitReg_done rfl _ _ _
  | bit_2_l => exact bitReg_done rfl _ _ _
  | bit_2_mhl => exact bitHl_done rfl _ _
  | bit_2_a => exact bitReg_done rfl _ _ _
  | bit_3_b => exact bitReg_done rfl _ _ _
  | bit_3_c => exact bitReg_done rfl _ _ _
  | bit_3_d => exact bitReg_done rfl _ _ _
  | bit_3_e => exact bitReg_done rfl _ _ _
  | bit_3_h => exact bitReg_done rfl _ _ _
  | bit_3_l => exact bitReg_done rfl _ _ _
  | bit_3_mhl => exact bitHl_done rfl _ _
  | bit_3_a => exact bitReg_done rfl _ _ _
  | bit_4_b => exact bitReg_done rfl _ _ _
  | bit_4_c => exact bitReg_done rfl _ _ _
  | bit_4_d => exact bitReg_done rfl _ _ _
  | bit_4_e => exact bitReg_done rfl _ _ _
  | bit_4_h => exact bitReg_done rfl _ _ _
  | bit_4_l => exact bitReg_done rfl _ _ _
  | bit_4_mhl => exact bitHl_done rfl _ _
  | bit_4_a => exact bitReg_done rfl _ _ _
  | bit_5_b => exact bitReg_done rfl _ _ _
  | bit_5_c => exact bitReg_done rfl _ _ _
  | bit_5_d => exact bitReg_done rfl _ _ _
  | bit_5_e => exact bitReg_done rfl _ _ _
  | bit_5_h => exact bitReg_done rfl _ _ _
  | bit_5_l => exact bitReg_done rfl _ _ _
  | bit_5_mhl => exact bitHl_done rfl _ _
  | bit_5_a => exact bitReg_done rfl _ _ _
  | bit_6_b => exact bitReg_done rfl _ _ _
  | bit_6_c => exact bitReg_done rfl _ _ _
  | bit_6_d => exact bitReg_done rfl _ _ _
  | bit_6_e => exact bitReg_done rfl _ _ _
  | bit_6_h => exact bitReg_done rfl _ _ _
  | bit_6_l => exact bitReg_done rfl _ _ _
  | bit_6_mhl => exact bitHl_done rfl _ _
  | bit_6_a => exact bitReg_done rfl _ _ _
  | bit_7_b => exact bitReg_done rfl _ _ _
  | bit_7_c => exact bitReg_done rfl _ _ _
  | bit_7_d => exact bitReg_done rfl _ _ _
  | bit_7_e => exact bitReg_done rfl _ _ _
  | bit_7_h => exact bitReg_done rfl _ _ _
  | bit_7_l => exact bitReg_done rfl _ _ _
  | bit_7_mhl => exact bitHl_done rfl _ _
  | bit_7_a => exact bitReg_done rfl _ _ _
  | res_0_b => exact putBitReg_done rfl _ _ (by decide) _
  | res_0_c => exact putBitReg_done rfl _ _ (by decide) _
  | res_0_d => exact putBitReg_done rfl _ _ (by decide) _
  | res_0_e => exact putBitReg_done rfl _ _ (by decide) _
  | res_0_h => exact putBitReg_done rfl _ _ (by decide) _
  | res_0_l => exact putBitReg_done rfl _ _ (by decide) _
  | res_0_mhl => exact putBitHl_done rfl _ _ _
  | res_0_a => exact putBitReg_done rfl _ _ (by decide) _
  | res_1_b => exact putBitReg_done rfl _ _ (by decide) _
  | res_1_c => exact putBitReg_done rfl _ _ (by decide) _
  | res_1_d => exact putBitReg_done rfl _ _ (by decide) _
  | res_1_e => exact putBitReg_done rfl _ _ (by decide) _
  | res_1_h => exact putBitReg_done rfl _ _ (by decide) _
  | res_1_l => exact putBitReg_done rfl _ _ (by decide) _
  | res_1_mhl => exact putBitHl_done rfl _ _ _
  | res_1_a => exact putBitReg_done rfl _ _ (by decide) _
  | res_2_b => exact putBitReg_done rfl _ _ (by decide) _
  | res_2_c => exact putBitReg_done rfl _ _ (by decide) _
  | res_2_d => exact putBitReg_done rfl _ _ (by decide) _
  | res_2_e => exact putBitReg_done rfl _ _ (by decide) _
  | res_2_h => exact putBitReg_done rfl _ _ (by decide) _
  | res_2_l => exact putBitReg_done rfl _ _ (by decide) _
  | res_2_mhl => exact putBitHl_done rfl _ _ _
  | res_2_a => exact putBitReg_done rfl _ _ (by decide) _
  | res_3_b => exact putBitReg_done rfl _ _ (by decide) _
  | res_3_c => exact putBitReg_done rfl _ _ (by decide) _
  | res_3_d => exact putBitReg_done rfl _ _ (by decide) _
  | res_3_e => exact putBitReg_done rfl _ _ (by decide) _
  | res_3_h => exact putBitReg_done rfl _ _ (by decide) _
  | res_3_l => exact putBitReg_done rfl _ _ (by decide) _
  | res_3_mhl => exact putBitHl_done rfl _ _ _
  | res_3_a => exact putBitReg_done rfl _ _ (by decide) _
  | res_4_b => exact putBitReg_done rfl _ _ (by decide) _
  | res_4_c => exact putBitReg_done rfl _ _ (by decide) _
  | res_4_d => exact putBitReg_done rfl _ _ (by decide) _
  | res_4_e => exact putBitReg_done rfl _ _ (by decide) _
  | res_4_h => exact putBitReg_done rfl _ _ (by decide) _
  | res_4_l => exact putBitReg_done rfl _ _ (by decide) _
  | res_4_mhl => exact putBitHl_done rfl _ _ _
  | res_4_a => exact putBitReg_done rfl _ _ (by decide) _
  | res_5_b => exact putBitReg_done rfl _ _ (by decide) _
  | res_5_c => exact putBitReg_done rfl _ _ (by decide) _
  | res_5_d => exact putBitReg_done rfl _ _ (by decide) _
  | res_5_e => exact putBitReg_done rfl _ _ (by decide) _
  | res_5_h => exact putBitReg_done rfl _ _ (by decide) _
  | res_5_l => exact putBitReg_done rfl _ _ (by decide) _
  | res_5_mhl => exact putBitHl_done rfl _ _ _
  | res_5_a => exact putBitReg_done rfl _ _ (by decide) _
  | res_6_b => exact putBitReg_done rfl _ _ (by decide) _
  | res_6_c => exact putBitReg_done rfl _ _ (by decide) _
  | res_6_d => exact putBitReg_done rfl _ _ (by decide) _
  | res_6_e => exact putBitReg_done rfl _ _ (by decide) _
  | res_6_h => exact putBitReg_done rfl _ _ (by decide) _
  | res_6_l => exact putBitReg_done rfl _ _ (by decide) _
  | res_6_mhl => exact putBitHl_done rfl _ _ _
  | res_6_a => exact putBitReg_done rfl _ _ (by decide) _
  | res_7_b => exact putBitReg_done rfl _ _ (by decide) _
  | res_7_c => exact putBitReg_done rfl _ _ (by decide) _
  | res_7_d => exact putBitReg_done rfl _ _ (by decide) _
  | res_7_e => exact putBitReg_done rfl _ _ (by decide) _
  | res_7_h => exact putBitReg_done rfl _ _ (by decide) _
  | res_7_l => exact putBitReg_done rfl _ _ (by decide) _
  | res_7_mhl => exact putBitHl_done rfl _ _ _
  | res_7_a => exact putBitReg_done rfl _ _ (by decide) _
  | set_0_b => exact putBitReg_done rfl _ _ (by decide) _
  | set_0_c => exact putBitReg_done rfl _ _ (by decide) _
  | set_0_d => exact putBitReg_done rfl _ _ (by decide) _
  | set_0_e => exact putBitReg_done rfl _ _ (by decide) _
  | set_0_h => exact putBitReg_done rfl _ _ (by decide) _
  | set_0_l => exact putBitReg_done rfl _ _ (by decide) _
  | set_0_mhl => exact putBitHl_done rfl _ _ _
  | set_0_a => exact putBitReg_done rfl _ _ (by decide) _
  | set_1_b => exact putBitReg_done rfl _ _ (by decide) _
  | set_1_c => exact putBitReg_done rfl _ _ (by decide) _
  | set_1_d => exact putBitReg_done rfl _ _ (by decide) _
  | set_1_e => exact putBitReg_done rfl _ _ (by decide) _
  | set_1_h => exact putBitReg_done rfl _ _ (by decide) _
  | set_1_l => exact putBitReg_done rfl _ _ (by decide) _
  | set_1_mhl => exact putBitHl_done rfl _ _ _
  | set_1_a => exact putBitReg_done rfl _ _ (by decide) _
  | set_2_b => exact putBitReg_done rfl _ _ (by decide) _
  | set_2_c => exact putBitReg_done rfl _ _ (by decide) _
  | set_2_d => exact putBitReg_done rfl _ _ (by decide) _
  | set_2_e => exact putBitReg_done rfl _ _ (by decide) _
  | set_2_h => exact putBitReg_done rfl _ _ (by decide) _
  | set_2_l => exact putBitReg_done rfl _ _ (by decide) _
  | set_2_mhl => exact putBitHl_done rfl _ _ _
  | set_2_a => exact putBitReg_done rfl _ _ (by decide) _
  | set_3_b => exact putBitReg_done rfl _ _ (by decide) _
  | set_3_c => exact putBitReg_done rfl _ _ (by decide) _
  | set_3_d => exact putBitReg_done rfl _ _ (by decide) _
  | set_3_e => exact putBitReg_done rfl _ _ (by decide) _
  | set_3_h => exact putBitReg_done rfl _ _ (by decide) _
  | set_3_l => exact putBitReg_done rfl _ _ (by decide) _
  | set_3_mhl => exact putBitHl_done rfl _ _ _
  | set_3_a => exact putBitReg_done rfl _ _ (by decide) _
  | set_4_b => exact putBitReg_done rfl _ _ (by decide) _
  | set_4_c => exact putBitReg_done rfl _ _ (by decide) _
  | set_4_d => exact putBitReg_done rfl _ _ (by decide) _
  | set_4_e => exact putBitReg_done rfl _ _ (by decide) _
  | set_4_h => exact putBitReg_done rfl _ _ (by decide) _
  | set_4_l => exact putBitReg_done rfl _ _ (by decide) _
  | set_4_mhl => exact putBitHl_done rfl _ _ _
  | set_4_a => exact putBitReg_done rfl _ _ (by decide) _
  | set_5_b => exact putBitReg_done rfl _ _ (by decide) _
  | set_5_c => exact putBitReg_done rfl _ _ (by decide) _
  | set_5_d => exact putBitReg_done rfl _ _ (by decide) _
  | set_5_e => exact putBitReg_done rfl _ _ (by decide) _
  | set_5_h => exact putBitReg_done rfl _ _ (by decide) _
  | set_5_l => exact putBitReg_done rfl _ _ (by decide) _
  | set_5_mhl => exact putBitHl_done rfl _ _ _
  | set_5_a => exact putBitReg_done rfl _ _ (by decide) _
  | set_6_b => exact putBitReg_done rfl _ _ (by decide) _
  | set_6_c => exact putBitReg_done rfl _ _ (by decide) _
  | set_6_d => exact putBitReg_done rfl _ _ (by decide) _
  | set_6_e => exact putBitReg_done rfl _ _ (by decide) _
  | set_6_h => exact putBitReg_done rfl _ _ (by decide) _
  | set_6_l => exact putBitReg_done rfl _ _ (by decide) _
  | set_6_mhl => exact putBitHl_done rfl _ _ _
  | set_6_a => exact putBitReg_done rfl _ _ (by decide) _
  | set_7_b => exact putBitReg_done rfl _ _ (by decide) _
  | set_7_c => exact putBitReg_done rfl _ _ (by decide) _
  | set_7_d => exact putBitReg_done rfl _ _ (by decide) _
  | set_7_e => exact putBitReg_done rfl _ _ (by decide) _
  | set_7_h => exact putBitReg_done rfl _ _ (by decide) _
  | set_7_l => exact putBitReg_done rfl _ _ (by decide) _
  | set_7_mhl => exact putBitHl_done rfl _ _ _
  | set_7_a => exact putBitReg_done rfl _ _ (by decide) _

end Sys2Proof.Machine
end

