-- ==== Sys2Proof/Laws/Ends.lean ====
section
/-! SUPPORT. How an instruction ends and how its accesses go, in the words of Sys2Proof/Safety/Forms.lean: the N8 byte accesses,
the A32 end, frames, and the masks of addresses. -/

namespace Sys2Proof.Machine

/-- Routing takes the first entry that contains the address, and fails where the access runs past its end (R113). -/
theorem route_some_iff {cfg : Config} {a n : Nat} {r : Region} {o : Nat} : route cfg a n = some (r, o) ↔
    ∃ before e after, cfg.map = before ++ e :: after ∧ (∀ d ∈ before, ¬(d.start ≤ a ∧ a ≤ d.last)) ∧
      e.start ≤ a ∧ a ≤ e.last ∧ a + n - 1 ≤ e.last ∧ r = e.region ∧ o = a - e.start + e.localBase := by
  have key : ∀ e, entryOf cfg a = some e ↔ ∃ before after, cfg.map = before ++ e :: after ∧
      (∀ d ∈ before, ¬(d.start ≤ a ∧ a ≤ d.last)) ∧ e.start ≤ a ∧ a ≤ e.last := by
    intro e
    rw [entryOf, List.find?_eq_some_iff_append]
    simp only [Bool.and_eq_true, decide_eq_true_eq, Bool.not_eq_true', Bool.and_eq_false_iff, decide_eq_false_iff_not]
    constructor
    · rintro ⟨h, before, after, hm, hb⟩
      exact ⟨before, after, hm, fun d hd => by have := hb d hd; omega, h⟩
    · rintro ⟨before, after, hm, hb, h⟩
      exact ⟨h, before, after, hm, fun d hd => by have := hb d hd; omega⟩
  unfold route
  constructor
  · intro h
    split at h
    · cases h
    · next e he =>
      split at h
      · cases h
      · next hl =>
        cases h
        obtain ⟨before, after, hm, hb, h1, h2⟩ := (key e).1 he
        exact ⟨before, e, after, hm, hb, h1, h2, by omega, rfl, rfl⟩
  · rintro ⟨before, e, after, hm, hb, h1, h2, h3, rfl, rfl⟩
    rw [(key e).2 ⟨before, after, hm, hb, h1, h2⟩]
    exact if_neg (by omega)

/-- A routed access lies inside an entry of the table (R113). -/
theorem route_some_entry {cfg : Config} {a n : Nat} {r : Region} {o : Nat} (h : route cfg a n = some (r, o)) :
    ∃ e ∈ cfg.map, e.start ≤ a ∧ a + n - 1 ≤ e.last ∧ r = e.region ∧ o = a - e.start + e.localBase := by
  obtain ⟨before, e, after, hm, _, h1, _, h3, hr, ho⟩ := route_some_iff.1 h
  exact ⟨e, by simp [hm], h1, h3, hr, ho⟩

/-- Bits 1 and 0 cleared. -/
theorem and_mask_four (v : Word) : v &&& 0xFFFFFFFC = v - v % 4 := by
  have : v % 4 = v &&& 3 := by
    apply BitVec.eq_of_toNat_eq
    rw [BitVec.toNat_umod, BitVec.toNat_and]
    exact (Nat.and_two_pow_sub_one_eq_mod v.toNat 2).symm
  rw [this]
  have h : v = (v &&& 0xFFFFFFFC) + (v &&& 3) := by
    have : v = (v &&& 0xFFFFFFFC) ||| (v &&& 3) := by
      rw [← BitVec.and_or_distrib_left]
      exact (BitVec.and_allOnes (x := v)).symm
    conv_lhs => rw [this]
    rw [BitVec.add_eq_or_of_and_eq_zero]
    ext i hi
    have : (BitVec.getLsbD (0xFFFFFFFC : Word) i && BitVec.getLsbD (3 : Word) i) = false := by
      have : ∀ i < 32, (BitVec.getLsbD (0xFFFFFFFC : Word) i && BitVec.getLsbD (3 : Word) i) = false := by decide
      exact this i hi
    simp [BitVec.getLsbD_eq_getElem hi] at this ⊢
    tauto
  rw [eq_comm, BitVec.sub_eq_iff_eq_add]
  exact h

/-- Bit 0 cleared. -/
theorem and_mask_two (v : Word) : v &&& 0xFFFFFFFE = v - v % 2 := by
  have : v % 2 = v &&& 1 := by
    apply BitVec.eq_of_toNat_eq
    rw [BitVec.toNat_umod, BitVec.toNat_and]
    exact (Nat.and_two_pow_sub_one_eq_mod v.toNat 1).symm
  rw [this]
  have h : v = (v &&& 0xFFFFFFFE) + (v &&& 1) := by
    have : v = (v &&& 0xFFFFFFFE) ||| (v &&& 1) := by
      rw [← BitVec.and_or_distrib_left]
      exact (BitVec.and_allOnes (x := v)).symm
    conv_lhs => rw [this]
    rw [BitVec.add_eq_or_of_and_eq_zero]
    ext i hi
    have : (BitVec.getLsbD (0xFFFFFFFE : Word) i && BitVec.getLsbD (1 : Word) i) = false := by
      have : ∀ i < 32, (BitVec.getLsbD (0xFFFFFFFE : Word) i && BitVec.getLsbD (1 : Word) i) = false := by decide
      exact this i hi
    simp [BitVec.getLsbD_eq_getElem hi] at this ⊢
    tauto
  rw [eq_comm, BitVec.sub_eq_iff_eq_add]
  exact h

/-- A rotated word, bit by bit. -/
theorem rotateRight_getLsbD_mod (v : Word) (n j : Nat) (hn : n < 32) (hj : j < 32) : (v.rotateRight n).getLsbD j = v.getLsbD ((j + n) % 32) := by
  rw [BitVec.getLsbD_rotateRight]
  by_cases h : j < 32 - n % 32
  · rw [decide_eq_true h, cond_true]
    rw [Nat.mod_eq_of_lt hn] at *
    have : j + n < 32 := by omega
    rw [Nat.mod_eq_of_lt this, Nat.add_comm]
  · rw [decide_eq_false h, cond_false]
    rw [Nat.mod_eq_of_lt hn] at *
    have : (j + n) % 32 = j - (32 - n) := by omega
    simp [hj, this]

theorem half_setWidth_toNat (a : Half) : (a.setWidth 32).toNat = a.toNat := by
  have := a.isLt
  simp [BitVec.toNat_setWidth]; omega

theorem readValue_byte (s : State) (r : Region) (o : Nat) :
    s.readValue r o .byte = (byteRead s r o).setWidth 32 := by
  simp [State.readValue, regionBytes, Width.bytes, byteRead, littleEndian]

/-- A routed byte read. -/
theorem load8_route {s : State} {a : Half} {r o} (h : Routes8 s a r o) :
    s.load8 a = .ok (byteRead s r o, s.afterRead r o .byte) := by
  unfold State.load8
  have h' : route s.cfg (a.setWidth 32 : Word).toNat (Width.bytes .byte) = some (r, o) := by
    rw [half_setWidth_toNat]; exact h
  rw [load_of_route h', readValue_byte]
  simp

/-- A byte read that is not routed. -/
theorem load8_none {s : State} {a : Half} (h : route s.cfg a.toNat 1 = none) :
    s.load8 a = .error (.bus s.site (a.setWidth 32) .byte .read) := by
  unfold State.load8 State.load State.loadAt busRead
  rw [half_setWidth_toNat]
  simp [Width.bytes, h, State.site]

theorem bytesOf_one (b : Byte) : bytesOf 1 (b.setWidth 32) = [b] := by
  simp [bytesOf, fld]
  ext i hi
  have : i < 32 := by omega
  simp [this, BitVec.getLsbD_eq_getElem hi]

/-- A routed byte write. -/
theorem store8_route {s : State} {a : Half} {r o} (b : Byte) (h : Routes8 s a r o) :
    s.store8 a b = .ok (s.writeByte r o b) := by
  unfold State.store8 State.store busWrite
  rw [half_setWidth_toNat]
  have : route s.cfg a.toNat (Width.bytes .byte) = some (r, o) := h
  rw [this]
  simp only [Width.bytes, bytesOf_one, State.writeBytes]

/-- A byte write that is not routed. -/
theorem store8_none {s : State} {a : Half} (b : Byte) (h : route s.cfg a.toNat 1 = none) :
    s.store8 a b = .error (.bus s.site (a.setWidth 32) .byte .write) := by
  unfold State.store8 State.store busWrite
  rw [half_setWidth_toNat]
  simp [Width.bytes, h]

/-- The end of an N8 instruction that does not branch. -/
theorem n8Done_eq (len : Nat) (row : CostRow) (t : State) :
    n8Done len row t = .next (n8Ends t t.n8 t.sp (t.pc + BitVec.ofNat 16 len) (t.cfg.cost row)) := rfl

/-- Two ends agree where their parts do. -/
theorem n8Ends_congr {u u' : State} {n n' : N8File} {sp sp' pc pc' : Half} {k k' : Nat}
   (hx : u.x = u'.x) (hsw : u.sw = u'.sw) (hob : u.openBus = u'.openBus) (hr : u.running = u'.running)
   (hm : u.mem = u'.mem) (hd : u.draws = u'.draws) (he : u.events = u'.events) (hc : u.cfg = u'.cfg)
   (hn : n = n') (hsp : sp = sp') (hpc : pc = pc') (hk : k = k') :
   n8Ends u n sp pc k = n8Ends u' n' sp' pc' k' := by
  cases u; cases u'; simp_all [n8Ends]

theorem byteAt_eq (s : State) (a : Nat) : s.byteAt a = (cellOf s.cfg a).map (Memory.get s.mem) := by
  unfold State.byteAt cellOf
  cases route s.cfg a 1 with
  | none => rfl
  | some p =>
    obtain ⟨r, o⟩ := p
    dsimp only
    cases r.kind <;> rfl

/-- A frame from the cells. -/
theorem onlyCells_of {s t : State} {cells : List Nat} (hc : t.cfg = s.cfg)
    (h : ∀ c, c ∉ cells → Memory.get t.mem c = Memory.get s.mem c) : OnlyCells s t cells := by
  intro a ha
  rw [byteAt_eq, byteAt_eq, hc]
  cases hcell : cellOf s.cfg a with
  | none => rfl
  | some c => simp only [Option.map_some]; rw [h c (ha c hcell)]

/-- A routed byte write changes only its cell. -/
theorem writeByte_frame {s : State} {a : Half} {r o} (v : Byte) (h : Routes8 s a r o) {c : Nat}
    (hc : c ∉ storedCells s.cfg (a.setWidth 32) .byte) : Memory.get (s.writeByte r o v).mem c = Memory.get s.mem c := by
  have : s.store (a.setWidth 32) .byte (v.setWidth 32) = .ok (s.writeByte r o v) := store8_route v h
  exact store_get this hc

@[simp] theorem setFlagsN8_n8 (u : State) (n : FlagsN8) : (u.setFlagsN8 n).n8 = u.n8.flags n := rfl

/-- A routed read-modify-write of the byte at HL. -/
theorem modifyHl_route (f : Byte → Out8) (len row) {s : State} {r o} (h : Routes8 s (s.getPair .hl) r o) :
    modifyHl f len row s = .next (n8Ends ((s.afterRead r o .byte).writeByte r o (f (byteRead s r o)).value)
      (s.n8.flags (f (byteRead s r o)).flags) s.sp (s.pc + BitVec.ofNat 16 len) (s.cfg.cost row)) := by
  have h' : Routes8 (s.afterRead r o .byte) (s.getPair .hl) r o := h
  simp only [modifyHl, load8_route h, andThen_ok, store8_route _ h']
  rw [n8Done_eq]
  congr 1
  apply n8Ends_congr <;> simp

/-- A well-formed instruction whose condition passed has its own effect. -/
theorem a32Run_passed {c : Cond} {i : Instr} {s : State} {body : State → Result} (hc : conditionPassed c s.sw = true)
    (hw : wellFormed i = true) : a32Run c i s body = body s := by
  unfold a32Run
  rw [if_pos hc]
  have : i.encodingError = none := by simpa [wellFormed] using hw
  rw [this]

/-- The end of an A32 instruction, from the state before `advance`. -/
theorem a32Ends_retire (s u v : State) (writes : List (Reg × Word)) (sw : Word) (row : CostRow)
    (hregs : ∀ r : Reg, v.getX r = regAfter (flagT sw) writes r (if r = 15 then s.getX 15 + 4 else s.getX r))
    (hsw : v.sw = sw) (hm : v.mem = u.mem) (hob : v.openBus = u.openBus) (hd : v.draws = u.draws)
    (he : v.events = u.events) (hn : v.n8 = s.n8) (hsp : v.sp = s.sp) (hpc : v.pc = s.pc) (hr : v.running = s.running)
    (hc : v.cfg = s.cfg) : A32Ends s u (v.retire row) writes sw (s.cfg.cost row) := by
  refine ⟨?_, ?_, ?_, ?_, ?_, ?_, ?_, ?_, ?_, ?_, ?_⟩
  · intro r; rw [retire_getX, hregs]
  all_goals simp [*]

/-- A register after `WriteReg`. -/
theorem getX_writeReg_mask (s : State) (i : Reg) (v : Word) (j : Reg) :
    (s.writeReg i v).getX j = if j = i then (if i = 15 then maskPc (flagT s.sw) v else v) else s.getX j := by
  rw [getX_writeReg]; rfl

end Sys2Proof.Machine
end

