-- ==== Sys2Proof/Laws/Blocks.lean ====
section
/-! SUPPORT. Block transfers: the registers of a list, and what the reads of LDM and the writes of STM come to where every word is
routed. -/

namespace Sys2Proof.Machine

/-- The registers of a list (R183). -/
theorem mem_registersOf (list : BitVec 16) : ∀ r : Reg, r ∈ registersOf list ↔ list.getLsbD r.toNat = true := by
  intro r
  unfold registersOf
  simp only [List.mem_map, List.mem_filter, List.mem_range]
  constructor
  · rintro ⟨a, ⟨ha, hb⟩, rfl⟩
    simpa [Nat.mod_eq_of_lt ha] using hb
  · intro hb
    exact ⟨r.toNat, ⟨r.isLt, hb⟩, by simp⟩

/-- They ascend (R381). -/
theorem registersOf_sorted (list : BitVec 16) : (registersOf list).Pairwise (fun a b => a.toNat < b.toNat) := by
  unfold registersOf
  rw [List.pairwise_map]
  have h1 : ((List.range 16).filter (fun i => list.getLsbD i)).Pairwise (· < ·) := List.Pairwise.filter _ List.pairwise_lt_range
  have h2 : ∀ a ∈ (List.range 16).filter (fun i => list.getLsbD i), a < 16 := by
    intro a ha; simpa using (List.mem_filter.1 ha).1
  refine List.Pairwise.imp_of_mem ?_ h1
  intro a b ha hb hab
  have := h2 a ha; have := h2 b hb
  simp only [BitVec.toNat_ofNat]; omega

theorem blockAddr_succ (start : Word) (j : Nat) : blockAddr (start + 4) j = blockAddr start (j + 1) := by
  unfold blockAddr
  rw [show 4 * (j + 1) = 4 + 4 * j by ring, BitVec.ofNat_add, ← BitVec.add_assoc]; rfl

theorem blockAddr_zero (start : Word) : blockAddr start 0 = start := by simp [blockAddr]

theorem blockRouted_tail {s t : State} {start : Word} {n : Nat} (h : BlockRouted s start (n+1)) (hc : t.cfg = s.cfg) : BlockRouted t (start + 4) n := by
  intro j hj
  rw [blockAddr_succ, hc]
  exact h (j+1) (by omega)

theorem blockDraws_succ (s t : State) (start : Word) (hc : t.cfg = s.cfg) (j : Nat) :
    blockDraws s start (j+1) = (match route s.cfg start.toNat 4 with | none => 0 | some (r, _) => drawsOf r 4) + blockDraws t (start + 4) j := by
  induction j with
  | zero =>
    show blockDraws s start 0 + (match route s.cfg (blockAddr start 0).toNat 4 with | none => 0 | some (r, _) => drawsOf r 4) = _
    rw [blockAddr_zero]; exact Nat.zero_add _
  | succ j ih =>
    rw [blockDraws, ih]
    conv_rhs => rw [blockDraws]
    rw [blockAddr_succ, hc, Nat.add_assoc]

theorem blockValue_succ (s : State) (start : Word) {r o} (h : route s.cfg start.toNat 4 = some (r, o)) (j : Nat) :
    blockValue s start (j+1) = blockValue (s.afterRead r o .word) (start + 4) j := by
  unfold blockValue
  rw [← blockAddr_succ, afterRead_cfg]
  cases route s.cfg (blockAddr (start + 4) j).toNat 4 with
  | none => rfl
  | some p =>
    obtain ⟨r', o'⟩ := p
    dsimp only
    rw [blockDraws_succ s (s.afterRead r o .word) start rfl, h]
    simp only [afterRead_mem, afterRead_draws, Width.bytes, Nat.add_assoc]

theorem blockValue_zero (s : State) (start : Word) {r o} (h : route s.cfg start.toNat 4 = some (r, o)) :
    blockValue s start 0 = s.readValue r o .word := by
  unfold blockValue
  rw [blockAddr_zero, h]
  simp [blockDraws, State.readValue, Width.bytes]

/-- The reads of a routed LDM. -/
theorem loadMany_routed (l : List Reg) (s : State) (start : Word) (h : BlockRouted s start l.length) (hl : l ≠ []) :
    loadMany s start l = .ok (l.mapIdx (fun j r => (r, blockValue s start j)),
      { s with openBus := blockValue s start (l.length - 1), draws := s.draws + blockDraws s start l.length }) := by
  induction l generalizing s start with
  | nil => exact absurd rfl hl
  | cons i rest ih =>
    have h0 := h 0 (by simp)
    rw [blockAddr_zero] at h0
    obtain ⟨⟨r, o⟩, hr⟩ := Option.isSome_iff_exists.1 h0
    have hload : s.load start .word = .ok (s.readValue r o .word, s.afterRead r o .word) := load_of_route hr
    unfold loadMany
    rw [hload]
    dsimp only
    cases hrest : rest with
    | nil =>
      simp only [loadMany, List.mapIdx_cons, List.mapIdx_nil, List.length_singleton]
      rw [blockValue_zero s start hr, blockDraws, blockDraws, blockAddr_zero, hr]
      simp [State.afterRead, Width.bytes]
    | cons i' rest' =>
      rw [← hrest]
      have := ih (s.afterRead r o .word) (start + 4) (blockRouted_tail h rfl) (by simp [hrest])
      rw [this]
      dsimp only
      simp only [List.mapIdx_cons, List.length_cons]
      have e1 : rest.length + 1 - 1 = (rest.length - 1) + 1 := by
        rw [hrest]; simp
      rw [e1, blockValue_succ s start hr, blockValue_zero s start hr, blockDraws_succ s (s.afterRead r o .word) start rfl, hr]
      congr 2
      · congr 1
        apply List.mapIdx_eq_mapIdx_iff.2
        intro j hj
        rw [blockValue_succ s start hr]
      · simp [State.afterRead, Width.bytes, Nat.add_assoc]

theorem blockSite_zero (s : State) (start : Word) : blockSite s start 0 = s.site := rfl

theorem blockSite_succ (s : State) (start : Word) {r o} (h : route s.cfg start.toNat 4 = some (r, o)) (j : Nat) :
    blockSite s start (j + 1) = blockSite (s.afterRead r o .word) (start + 4) j := by
  have hd : (s.afterRead r o .word).draws = s.draws + drawsOf r 4 := rfl
  have hs : (s.afterRead r o .word).site = { s.site with openBus := s.readValue r o .word, draws := s.draws + drawsOf r 4 } :=
    rfl
  unfold blockSite
  rw [blockDraws_succ s (s.afterRead r o .word) start rfl, h, hd, hs]
  cases j with
  | zero => simp [blockValue_zero s start h, Nat.add_assoc]
  | succ j => simp [blockValue_succ s start h, Nat.add_assoc]

/-- The reads of an LDM that stops at its `j`-th address. -/
theorem loadMany_stops (l : List Reg) (s : State) (start : Word) (j : Nat) (hj : j < l.length) (h : BlockRouted s start j)
    (hn : route s.cfg (blockAddr start j).toNat 4 = none) :
    loadMany s start l = .error (.bus (blockSite s start j) (blockAddr start j) .word .read) := by
  induction l generalizing s start j with
  | nil => simp at hj
  | cons i rest ih =>
    unfold loadMany
    cases j with
    | zero =>
      rw [blockAddr_zero] at hn ⊢
      rw [load_of_none hn]; rfl
    | succ j =>
      have h0 := h 0 (Nat.succ_pos j)
      rw [blockAddr_zero] at h0
      obtain ⟨⟨r, o⟩, hr⟩ := Option.isSome_iff_exists.1 h0
      rw [load_of_route (w := .word) hr]
      dsimp only
      rw [ih (s.afterRead r o .word) (start + 4) j (by simpa using hj) (blockRouted_tail h rfl)
        (by rw [blockAddr_succ]; exact hn), blockSite_succ s start hr, blockAddr_succ]

/-- A register after the writes of LDM. -/
theorem writeRegs_getX (l : List (Reg × Word)) (s : State) (r : Reg) (old : Word) (h : s.getX r = old) :
    (writeRegs s l).getX r = regAfter (flagT s.sw) l r old := by
  induction l generalizing s old with
  | nil => exact h
  | cons p rest ih =>
    obtain ⟨i, v⟩ := p
    unfold writeRegs
    rw [ih (s.writeReg i v) (if r = i then (if i = 15 then maskPc (flagT s.sw) v else v) else old) (by rw [getX_writeReg_mask, h])]
    simp [regAfter]

theorem regAfter_append (t : Bool) (a b : List (Reg × Word)) (r : Reg) (old : Word) : regAfter t (a ++ b) r old = regAfter t b r (regAfter t a r old) := by
  simp [regAfter]

/-- The writes of a routed STM. -/
theorem storeMany_routed (l : List Word) (s : State) (start : Word) (k : Nat)
    (h : ∀ j, j < l.length → (route s.cfg (blockAddr start (k + j)).toNat 4).isSome) :
    storeMany s (blockAddr start k) l = .ok (blockStores s start k l) := by
  induction l generalizing s k with
  | nil => rfl
  | cons v rest ih =>
    obtain ⟨⟨r, o⟩, hr⟩ := Option.isSome_iff_exists.1 (h 0 (by simp))
    rw [Nat.add_zero] at hr
    have hs : s.store (blockAddr start k) .word v = .ok (s.writeBytes r o (bytesOf 4 v)) := store_of_route hr
    unfold storeMany blockStores
    rw [hs, hr]
    dsimp only
    have e : blockAddr start k + 4 = blockAddr start (k + 1) := by
      unfold blockAddr
      rw [show 4 * (k + 1) = 4 * k + 4 by ring, BitVec.ofNat_add, ← BitVec.add_assoc]; rfl
    rw [e]
    apply ih
    intro j hj
    rw [writeBytes_cfg, show k + 1 + j = k + (j + 1) by omega]
    exact h (j + 1) (by simpa using hj)

/-- The writes of an STM that stops at its `j`-th address. -/
theorem storeMany_stops (l : List Word) (s : State) (start : Word) (j : Nat) (hj : j < l.length) (h : BlockRouted s start j)
    (hn : route s.cfg (blockAddr start j).toNat 4 = none) :
    storeMany s start l = .error (.bus s.site (blockAddr start j) .word .write) := by
  induction l generalizing s start j with
  | nil => simp at hj
  | cons v rest ih =>
    unfold storeMany
    cases j with
    | zero =>
      rw [blockAddr_zero] at hn ⊢
      rw [store_of_none hn]
    | succ j =>
      have h0 := h 0 (Nat.succ_pos j)
      rw [blockAddr_zero] at h0
      obtain ⟨⟨r, o⟩, hr⟩ := Option.isSome_iff_exists.1 h0
      rw [store_of_route (w := .word) hr]
      dsimp only
      have hs : (s.writeBytes r o (bytesOf 4 v)).site = s.site := by
        simp [State.site, State.siteAt, State.here]
      rw [show Width.word.bytes = 4 from rfl, ih _ (start + 4) j (by simpa using hj) (blockRouted_tail h (writeBytes_cfg ..))
        (by rw [blockAddr_succ, writeBytes_cfg]; exact hn), hs, blockAddr_succ]

/-- What the writes of STM leave alone. -/
theorem storeMany_same (l : List Word) (s t : State) (a : Word) (h : storeMany s a l = .ok t) :
    t.x = s.x ∧ t.sw = s.sw ∧ t.openBus = s.openBus ∧ t.draws = s.draws ∧ t.n8 = s.n8 ∧ t.sp = s.sp ∧ t.pc = s.pc ∧ t.running = s.running ∧ t.cfg = s.cfg := by
  induction l generalizing s a with
  | nil => cases h; simp
  | cons v rest ih =>
    unfold storeMany at h
    split at h
    · cases h
    · next u hu =>
      obtain ⟨r, o, _, rfl⟩ := store_ok hu
      have := ih _ _ h
      simpa using this

/-- The writes of STM change only their cells. -/
theorem storeMany_frame (l : List Word) (s t : State) (a : Word) (h : storeMany s a l = .ok t) (c : Nat)
    (hc : c ∉ storedManyCells s.cfg a l.length) : Memory.get t.mem c = Memory.get s.mem c := by
  induction l generalizing s a with
  | nil => cases h; rfl
  | cons v rest ih =>
    unfold storeMany at h
    split at h
    · cases h
    · next u hu =>
      simp only [List.length_cons, storedManyCells, List.mem_append, not_or] at hc
      have hcfg : u.cfg = s.cfg := by obtain ⟨r, o, _, rfl⟩ := store_ok hu; simp
      rw [ih u (a + 4) h (by rw [hcfg]; exact hc.2), store_get hu hc.1]

end Sys2Proof.Machine
end

