-- ==== Sys2Proof/Laws/Step.lean ====
section
/-! SUPPORT. Said once: everything a step can do. A fetch only reads; what it finds belongs to the core's profile; a step that
answers a next state is one of four; one that faults says where; none is refused. -/

namespace Sys2Proof.Machine

/-- What reads alone do: the latch and the count of draws. -/
def Reads (s u : State) : Prop := ∃ (latch : Word) (k : Nat), u = { s with openBus := latch, draws := s.draws + k }

theorem Reads.refl (s : State) : Reads s s := ⟨s.openBus, 0, rfl⟩

theorem Reads.afterRead {s u : State} (h : Reads s u) (r : Region) (o : Nat) (w : Width) : Reads s (u.afterRead r o w) := by
  obtain ⟨latch, k, rfl⟩ := h
  refine ⟨?_, k + drawsOf r w.bytes, ?_⟩
  rotate_left
  · simp only [State.afterRead, Nat.add_assoc]
    rfl

theorem Reads.fetch {s t u : State} {a v : Word} {w : Width} (h : Reads s t) (hf : t.fetch a w = .ok (v, u)) :
    Reads s u := by
  obtain ⟨r, o, _, hl⟩ | ⟨_, hl⟩ := loadAt_cases t a a w
  · rw [State.fetch, hl] at hf
    cases hf
    exact h.afterRead r o w
  · rw [State.fetch, hl] at hf
    cases hf

theorem Reads.fetch8 {s t u : State} {a : Half} {b : Byte} (h : Reads s t) (hf : t.fetch8 a = .ok (b, u)) : Reads s u := by
  unfold State.fetch8 at hf
  split at hf
  · cases hf
  · next hl => cases hf; exact h.fetch hl

/-- The fault of a fetch reports the address fetched from (R540). -/
theorem fetch_fault {t : State} {a : Word} {w : Width} {f : Fault} (hf : t.fetch a w = .error f) :
    f = .bus ⟨t.cfg.profile, a, t.openBus, t.draws⟩ a w .read := by
  obtain ⟨r, o, _, hl⟩ | ⟨_, hl⟩ := loadAt_cases t a a w
  · rw [State.fetch, hl] at hf
    cases hf
  · rw [State.fetch, hl] at hf
    cases hf
    rfl

theorem fetch8_fault {t : State} {a : Half} {f : Fault} (hf : t.fetch8 a = .error f) :
    f = .bus ⟨t.cfg.profile, a.setWidth 32, t.openBus, t.draws⟩ (a.setWidth 32) .byte .read := by
  unfold State.fetch8 at hf
  split at hf
  · next hl => cases hf; exact fetch_fault hl
  · cases hf

/-! ## What is decoded belongs to the profile -/

theorem dpImm_profile (c : Cond) (sf : Bool) (rn rd : Reg) (o : RotImm) (op : DpOp) :
    (dpImm c sf rn rd o op).profile = .a32 := by cases op <;> rfl

theorem dpShift_profile (c : Cond) (sf : Bool) (rn rd : Reg) (o : ShiftImm) (op : DpOp) :
    (dpShift c sf rn rd o op).profile = .a32 := by cases op <;> rfl

theorem dpShiftReg_profile (c : Cond) (sf : Bool) (rn rd : Reg) (o : ShiftReg) (op : DpOp) :
    (dpShiftReg c sf rn rd o op).profile = .a32 := by cases op <;> rfl

theorem decodeDataProcessing_profile (w : Word) : (decodeDataProcessing w).profile = .a32 := by
  unfold decodeDataProcessing
  dsimp only
  split
  · exact dpImm_profile _ _ _ _ _ _
  · split
    · exact dpShiftReg_profile _ _ _ _ _ _
    · exact dpShift_profile _ _ _ _ _ _

theorem decodeMultiply_profile (w : Word) : (decodeMultiply w).profile = .a32 := by unfold decodeMultiply; split <;> rfl

theorem decodeMultiplyLong_profile (w : Word) : (decodeMultiplyLong w).profile = .a32 := by
  unfold decodeMultiplyLong; dsimp only; split <;> rfl

theorem decodeSwap_profile (w : Word) : (decodeSwap w).profile = .a32 := by unfold decodeSwap; split <;> rfl

theorem decodeSingle_profile (w : Word) : (decodeSingle w).profile = .a32 := by
  unfold decodeSingle
  split
  · unfold decodeSingleReg; dsimp only; split <;> rfl
  · unfold decodeSingleImm; dsimp only; split <;> rfl

theorem decodeHalfword_profile (w : Word) : (decodeHalfword w).profile = .a32 := by
  unfold decodeHalfword; dsimp only; split <;> rfl

theorem decodeBlock_profile (w : Word) : (decodeBlock w).profile = .a32 := by unfold decodeBlock; dsimp only; split <;> rfl

theorem decodeA32_profile {w : Word} {i : Instr} (h : decodeA32 w = some i) : i.profile = .a32 := by
  unfold decodeA32 at h
  split at h <;> cases h
  · exact decodeMultiply_profile w
  · exact decodeMultiplyLong_profile w
  · exact decodeSwap_profile w
  · exact decodeHalfword_profile w
  · rfl
  · rfl
  · rfl
  · exact decodeDataProcessing_profile w
  · rfl
  · exact decodeSingle_profile w
  · exact decodeBlock_profile w
  · split <;> rfl

/-- An entry of the N8 table holds instructions of N8. -/
def OfN8 : N8Entry → Prop
  | .plain i => i.profile = .n8
  | .byte f => ∀ b, (f b).profile = .n8
  | .half f => ∀ h, (f h).profile = .n8
  | .cbTable => True
  | .absent => True

theorem n8Table_ofN8 : ∀ e ∈ n8Table, OfN8 e := by
  unfold n8Table
  repeat' refine List.forall_mem_append.2 ⟨?_, ?_⟩
  all_goals
    repeat' refine List.forall_mem_cons.2 ⟨?_, ?_⟩
  all_goals first
    | exact rfl
    | exact fun _ => rfl
    | exact trivial
    | exact fun _ h => nomatch h

theorem n8Entry_ofN8 (op : Byte) : OfN8 (n8Entry op) := by
  unfold n8Entry
  rw [List.getD_eq_getElem?_getD]
  cases h : n8Table[op.toNat]? with
  | none => exact trivial
  | some e => exact n8Table_ofN8 e (List.mem_of_getElem? h)

theorem cbTable_profile : ∀ i ∈ cbTable, i.profile = .n8 := by
  unfold cbTable
  repeat' refine List.forall_mem_append.2 ⟨?_, ?_⟩
  all_goals
    repeat' refine List.forall_mem_cons.2 ⟨rfl, ?_⟩
    exact fun _ h => nomatch h

theorem cbInstr_profile (cb : Byte) : (cbInstr cb).profile = .n8 := by
  unfold cbInstr
  rw [List.getD_eq_getElem?_getD]
  cases h : cbTable[cb.toNat]? with
  | none => rfl
  | some e => exact cbTable_profile e (List.mem_of_getElem? h)

/-! ## The step -/

/-- What the front of a step may come to. -/
structure FetchDone (s : State) (x : Fetched) : Prop where
  run : ∀ i u, x = .run i u → Reads s u ∧ i.profile = s.cfg.profile
  next : ∀ t, x = .done (.next t) → s.cfg.profile = .a32 ∧ ∃ u, Reads s u ∧
    (t = condFailed u ∨ ∃ w, t = ((u.emit (.unrecognizedNoOp (u.getX 15) w)).advance4.retire .unrecognizedNoOp))
  fault : ∀ f, x = .done (.fault f) → ∃ site, f.site = some site ∧ site.profile = s.cfg.profile ∧ s.draws ≤ site.draws ∧
    (site.addr = s.here ∨
      s.cfg.profile = .n8 ∧ (site.addr = (s.pc + 1).setWidth 32 ∨ site.addr = (s.pc + 2).setWidth 32)) ∧
    (s.cfg.profile = .a32 → f.code = 2 ∨ f.code = 4 ∨ f.code = 5) ∧
    (s.cfg.profile = .n8 → f.code = 2 ∨ f.code = 3)
  noRefusal : ∀ r, x ≠ .done (.refused r)

theorem fetchDone_run {s u : State} {i : Instr} (h : Reads s u) (hi : i.profile = s.cfg.profile) :
    FetchDone s (.run i u) where
  run j v hj := by cases hj; exact ⟨h, hi⟩
  next t ht := by cases ht
  fault f hf := by cases hf
  noRefusal r hr := by cases hr

theorem fetchDone_fault {s : State} {f : Fault} (h : ∃ site, f.site = some site ∧ site.profile = s.cfg.profile ∧
    s.draws ≤ site.draws ∧ (site.addr = s.here ∨
      s.cfg.profile = .n8 ∧ (site.addr = (s.pc + 1).setWidth 32 ∨ site.addr = (s.pc + 2).setWidth 32)) ∧
    (s.cfg.profile = .a32 → f.code = 2 ∨ f.code = 4 ∨ f.code = 5) ∧
    (s.cfg.profile = .n8 → f.code = 2 ∨ f.code = 3)) : FetchDone s (.done (.fault f)) where
  run i u hi := by cases hi
  next t ht := by cases ht
  fault g hg := by cases hg; exact h
  noRefusal r hr := by cases hr

theorem fetchDone_next {s u t : State} (h : Reads s u) (hp : s.cfg.profile = .a32)
    (ht : t = condFailed u ∨ ∃ w, t = ((u.emit (.unrecognizedNoOp (u.getX 15) w)).advance4.retire .unrecognizedNoOp)) :
    FetchDone s (.done (.next t)) where
  run i v hi := by cases hi
  next v hv := by cases hv; exact ⟨hp, u, h, ht⟩
  fault f hf := by cases hf
  noRefusal r hr := by cases hr

theorem here_a32 {s : State} (hp : s.cfg.profile = .a32) : s.here = s.getX 15 := by
  unfold State.here; rw [hp]

theorem here_n8 {s : State} (hp : s.cfg.profile = .n8) : s.here = s.pc.setWidth 32 := by
  unfold State.here; rw [hp]

theorem decodeFault_done {s u : State} (h : Reads s u) (hp : s.cfg.profile = .a32) (w : Word) (reason : DecodeReason) :
    FetchDone s (.done (decodeFault u w reason)) := by
  obtain ⟨latch, k, rfl⟩ := h
  refine fetchDone_fault ⟨_, rfl, rfl, Nat.le_add_right _ _, .inl ?_, fun _ => .inr (.inl rfl), fun h => ?_⟩
  · exact here_congr rfl rfl rfl
  · rw [hp] at h; cases h

theorem classifyA32_done {s u : State} (h : Reads s u) (hp : s.cfg.profile = .a32) (w : Word) :
    FetchDone s (classifyA32 w u) := by
  unfold classifyA32
  split
  · split
    · unfold unrecognized
      split
      · exact decodeFault_done h hp w _
      · exact fetchDone_next h hp (.inr ⟨w, rfl⟩)
    · next i hi =>
      split
      · exact decodeFault_done h hp w _
      · exact fetchDone_run h (by rw [hp]; exact decodeA32_profile hi)
  · exact fetchDone_next h hp (.inl rfl)

theorem fetchA32_done {s : State} (hp : s.cfg.profile = .a32) : FetchDone s (fetchA32 s) := by
  have hn : s.cfg.profile ≠ .n8 := by rw [hp]; decide
  unfold fetchA32
  split
  · exact fetchDone_fault ⟨_, rfl, rfl, Nat.le_refl _, .inl rfl, fun _ => .inr (.inr rfl), fun h => absurd h hn⟩
  · split
    · next hf =>
      cases fetch_fault hf
      exact fetchDone_fault ⟨_, rfl, rfl, Nat.le_refl _, .inl (here_a32 hp).symm, fun _ => .inl rfl, fun h => absurd h hn⟩
    · next hf => exact classifyA32_done ((Reads.refl s).fetch hf) hp _

theorem fetch8_done {s t : State} {a : Half} {f : Fault} (h : Reads s t) (hp : s.cfg.profile = .n8)
    (ha : a = s.pc ∨ a = s.pc + 1 ∨ a = s.pc + 2) (hf : t.fetch8 a = .error f) : FetchDone s (.done (.fault f)) := by
  cases fetch8_fault hf
  obtain ⟨latch, k, rfl⟩ := h
  have hn : s.cfg.profile ≠ .a32 := by rw [hp]; decide
  refine fetchDone_fault ⟨_, rfl, rfl, Nat.le_add_right _ _, ?_, fun h => absurd h hn, fun _ => .inl rfl⟩
  rcases ha with rfl | rfl | rfl
  · exact .inl (here_n8 hp).symm
  · exact .inr ⟨hp, .inl rfl⟩
  · exact .inr ⟨hp, .inr rfl⟩

theorem fetchOperand_done {s t : State} (h : Reads s t) (hp : s.cfg.profile = .n8) {k : Byte → Instr}
    (hk : ∀ b, (k b).profile = .n8) : FetchDone s (fetchOperand t k) := by
  have hpc : t.pc = s.pc := by obtain ⟨_, _, rfl⟩ := h; rfl
  unfold fetchOperand
  split
  · next hf => exact fetch8_done h hp (.inr (.inl (by rw [hpc]))) hf
  · next b u hf => exact fetchDone_run (h.fetch8 hf) ((hk b).trans hp.symm)

theorem fetchOperand16_done {s t : State} (h : Reads s t) (hp : s.cfg.profile = .n8) {k : Half → Instr}
    (hk : ∀ b, (k b).profile = .n8) : FetchDone s (fetchOperand16 t k) := by
  have hpc : t.pc = s.pc := by obtain ⟨_, _, rfl⟩ := h; rfl
  unfold fetchOperand16
  split
  · next hf => exact fetch8_done h hp (.inr (.inl (by rw [hpc]))) hf
  · next lo u hf =>
    split
    · next hf' => exact fetch8_done (h.fetch8 hf) hp (.inr (.inr (by rw [hpc]))) hf'
    · next hi v hf' => exact fetchDone_run ((h.fetch8 hf).fetch8 hf') ((hk _).trans hp.symm)

theorem fetchN8_done {s : State} (hp : s.cfg.profile = .n8) : FetchDone s (fetchN8 s) := by
  have hn : s.cfg.profile ≠ .a32 := by rw [hp]; decide
  unfold fetchN8
  split
  · next hf => exact fetch8_done (.refl s) hp (.inl rfl) hf
  · next op t hf =>
    have h := (Reads.refl s).fetch8 hf
    have he := n8Entry_ofN8 op
    unfold dispatchN8
    split
    · next i hi => rw [hi] at he; exact fetchDone_run h (he.trans hp.symm)
    · next k hi => rw [hi] at he; exact fetchOperand_done h hp he
    · next k hi => rw [hi] at he; exact fetchOperand16_done h hp he
    · exact fetchOperand_done h hp cbInstr_profile
    · obtain ⟨latch, k, rfl⟩ := h
      exact fetchDone_fault ⟨_, rfl, rfl, Nat.le_add_right _ _, .inl (here_congr rfl rfl rfl), fun h => absurd h hn,
        fun _ => .inr rfl⟩

/-- Everything the front of a step can do. -/
theorem fetchNext_done (s : State) : FetchDone s (fetchNext s) := by
  unfold fetchNext
  split
  · next hp => exact fetchA32_done hp
  · next hp => exact fetchN8_done hp

/-- The four ways a step answers a next state. -/
theorem step_next {s t : State} (h : step s = .next t) :
    (s.running = false ∧ t = haltedStep s) ∨
    (s.running = true ∧ ∃ u, Reads s u ∧
      ((∃ i, i.profile = s.cfg.profile ∧ exec i u = .next t) ∨
       (s.cfg.profile = .a32 ∧
        (t = condFailed u ∨ ∃ w, t = ((u.emit (.unrecognizedNoOp (u.getX 15) w)).advance4.retire .unrecognizedNoOp))))) := by
  unfold step at h
  split at h
  · next hr =>
    have hd := fetchNext_done s
    split at h
    · next x hx =>
      subst h
      obtain ⟨hp, u, hu, ht⟩ := hd.next t hx
      exact .inr ⟨hr, u, hu, .inr ⟨hp, ht⟩⟩
    · next i u hx =>
      obtain ⟨hu, hi⟩ := hd.run i u hx
      exact .inr ⟨hr, u, hu, .inl ⟨i, hi, h⟩⟩
  · next hr => cases h; exact .inl ⟨by simpa using hr, rfl⟩

/-- No step is refused. -/
theorem step_noRefusal (s : State) (r : Refusal) : step s ≠ .refused r := by
  intro h
  unfold step at h
  split at h
  · have hd := fetchNext_done s
    split at h
    · next x hx => subst h; exact hd.noRefusal r hx
    · next i u hx => exact (exec_done i u).noRefusal r h
  · cases h

end Sys2Proof.Machine
end

