-- ==== Sys2Proof/Tests/Slice0.lean ====
section
/-! SUPPORT. Decoding shown on words written from the spec's encodings, one for each constructor; ill-formed operands refused;
single-step vectors of 95_test_vectors.md; and, for each statement of Obligations.lean that has hypotheses, states and
operands that meet them. -/

namespace Sys2Proof.Tests
open Sys2Proof Sys2Proof.Machine

-- One declaration after another: many declarations waiting on one kernel check would each hold a thread.
set_option Elab.async false

/-! ## Decoding

The words are laid out from the fields of spec/opcode_table.json, with operand values of no pattern. -/

theorem test_decode_a32_branch :
    ∀ p ∈ ([
     (0x5AF2A74D, Instr.b .pl 0xF2A74D),
     (0x2B651327, Instr.bl .cs 0x651327),
     (0xA12FFF10, Instr.bx .ge 0)] : List (Word × Instr)), decodeWord p.1 = .ok p.2 := by
  repeat' refine List.forall_mem_cons.2 ⟨rfl, ?_⟩
  exact fun _ h => nomatch h

theorem test_decode_a32_dp_imm :
    ∀ p ∈ ([
     (0x12181595, Instr.andImm .ne true 8 1 ⟨5, 0x95⟩),
     (0xD231F3A1, Instr.eorImm .le true 1 15 ⟨3, 0xA1⟩),
     (0x42428192, Instr.subImm .mi false 2 8 ⟨1, 0x92⟩),
     (0x1270937F, Instr.rsbImm .ne true 0 9 ⟨3, 0x7F⟩),
     (0xB293194C, Instr.addImm .lt true 3 1 ⟨9, 0x4C⟩),
     (0xC2A2E76B, Instr.adcImm .gt false 2 14 ⟨7, 0x6B⟩),
     (0x92C9C711, Instr.sbcImm .ls false 9 12 ⟨7, 0x11⟩),
     (0xF2FD74B7, Instr.rscImm .unknown true 13 7 ⟨4, 0xB7⟩),
     (0xC31402BD, Instr.tstImm .gt 4 ⟨2, 0xBD⟩),
     (0x83340E23, Instr.teqImm .hi 4 ⟨14, 0x23⟩),
     (0xE3560F3B, Instr.cmpImm .al 6 ⟨15, 0x3B⟩),
     (0x93720448, Instr.cmnImm .ls 2 ⟨4, 0x48⟩),
     (0xB398F9A7, Instr.orrImm .lt true 8 15 ⟨9, 0xA7⟩),
     (0x63A017A2, Instr.movImm .vs false 1 ⟨7, 0xA2⟩),
     (0x13C92819, Instr.bicImm .ne false 9 2 ⟨8, 0x19⟩),
     (0x93E0711D, Instr.mvnImm .ls false 7 ⟨1, 0x1D⟩)] : List (Word × Instr)), decodeWord p.1 = .ok p.2 := by
  repeat' refine List.forall_mem_cons.2 ⟨rfl, ?_⟩
  exact fun _ h => nomatch h

theorem test_decode_a32_dp_shift :
    ∀ p ∈ ([
     (0x00183086, Instr.andShift .eq true 8 3 ⟨.lsl, 1, 6⟩),
     (0xA03F0946, Instr.eorShift .ge true 15 0 ⟨.asr, 18, 6⟩),
     (0x405DA289, Instr.subShift .mi true 13 10 ⟨.lsl, 5, 9⟩),
     (0xA076C529, Instr.rsbShift .ge true 6 12 ⟨.lsr, 10, 9⟩),
     (0x808E5BA4, Instr.addShift .hi false 14 5 ⟨.lsr, 23, 4⟩),
     (0x00BA1C49, Instr.adcShift .eq true 10 1 ⟨.asr, 24, 9⟩),
     (0xD0CF47CA, Instr.sbcShift .le false 15 4 ⟨.asr, 15, 10⟩),
     (0x60FA5067, Instr.rscShift .vs true 10 5 ⟨.ror, 0, 7⟩),
     (0x3116066D, Instr.tstShift .cc 6 ⟨.ror, 12, 13⟩),
     (0xD1360DC4, Instr.teqShift .le 6 ⟨.asr, 27, 4⟩),
     (0x21510283, Instr.cmpShift .cs 1 ⟨.lsl, 5, 3⟩),
     (0x017206C5, Instr.cmnShift .eq 2 ⟨.asr, 13, 5⟩),
     (0xA1907E6C, Instr.orrShift .ge true 0 7 ⟨.ror, 28, 12⟩),
     (0x61A03163, Instr.movShift .vs false 3 ⟨.ror, 2, 3⟩),
     (0xF1C90163, Instr.bicShift .unknown false 9 0 ⟨.ror, 2, 3⟩),
     (0xD1E0FFA7, Instr.mvnShift .le false 15 ⟨.lsr, 31, 7⟩)] : List (Word × Instr)), decodeWord p.1 = .ok p.2 := by
  repeat' refine List.forall_mem_cons.2 ⟨rfl, ?_⟩
  exact fun _ h => nomatch h

theorem test_decode_a32_dp_shiftReg :
    ∀ p ∈ ([
     (0x60031830, Instr.andShiftReg .vs false 3 1 ⟨.lsr, 8, 0⟩),
     (0x00330872, Instr.eorShiftReg .eq true 3 0 ⟨.ror, 8, 2⟩),
     (0x9053515B, Instr.subShiftReg .ls true 3 5 ⟨.asr, 1, 11⟩),
     (0xE0654372, Instr.rsbShiftReg .al false 5 4 ⟨.ror, 3, 2⟩),
     (0x90911832, Instr.addShiftReg .ls true 1 1 ⟨.lsr, 8, 2⟩),
     (0xC0BD5555, Instr.adcShiftReg .gt true 13 5 ⟨.asr, 5, 5⟩),
     (0x10CBB459, Instr.sbcShiftReg .ne false 11 11 ⟨.asr, 4, 9⟩),
     (0x50E91713, Instr.rscShiftReg .pl false 9 1 ⟨.lsl, 7, 3⟩),
     (0x71110236, Instr.tstShiftReg .vc 1 ⟨.lsr, 2, 6⟩),
     (0xB1360F3A, Instr.teqShiftReg .lt 6 ⟨.lsr, 15, 10⟩),
     (0xA153003D, Instr.cmpShiftReg .ge 3 ⟨.lsr, 0, 13⟩),
     (0x91790572, Instr.cmnShiftReg .ls 9 ⟨.ror, 5, 2⟩),
     (0xF19AC836, Instr.orrShiftReg .unknown true 10 12 ⟨.lsr, 8, 6⟩),
     (0x71A01550, Instr.movShiftReg .vc false 1 ⟨.asr, 5, 0⟩),
     (0x91C2A475, Instr.bicShiftReg .ls false 2 10 ⟨.ror, 4, 5⟩),
     (0x71E0121B, Instr.mvnShiftReg .vc false 1 ⟨.lsl, 2, 11⟩)] : List (Word × Instr)), decodeWord p.1 = .ok p.2 := by
  repeat' refine List.forall_mem_cons.2 ⟨rfl, ?_⟩
  exact fun _ h => nomatch h

theorem test_decode_a32_status :
    ∀ p ∈ ([
     (0x510FB000, Instr.mrs .pl 11),
     (0x4127F00D, Instr.msrReg .mi 7 13),
     (0xB322F805, Instr.msrImm .lt 2 ⟨8, 0x05⟩)] : List (Word × Instr)), decodeWord p.1 = .ok p.2 := by
  repeat' refine List.forall_mem_cons.2 ⟨rfl, ?_⟩
  exact fun _ h => nomatch h

theorem test_decode_a32_multiply :
    ∀ p ∈ ([
     (0x301F0895, Instr.mul .cc true 15 8 5),
     (0x2038CE90, Instr.mla .cs true 8 12 14 0),
     (0x808FAD91, Instr.umull .hi false 15 10 13 1),
     (0xB0B4859E, Instr.umlal .lt true 4 8 5 14),
     (0x20CC3898, Instr.smull .cs false 12 3 8 8),
     (0xC0F5A399, Instr.smlal .gt true 5 10 3 9)] : List (Word × Instr)), decodeWord p.1 = .ok p.2 := by
  repeat' refine List.forall_mem_cons.2 ⟨rfl, ?_⟩
  exact fun _ h => nomatch h

theorem test_decode_a32_swap :
    ∀ p ∈ ([
     (0xC10CF09C, Instr.swp .gt 12 15 12),
     (0xD143C093, Instr.swpb .le 3 12 3)] : List (Word × Instr)), decodeWord p.1 = .ok p.2 := by
  repeat' refine List.forall_mem_cons.2 ⟨rfl, ?_⟩
  exact fun _ h => nomatch h

theorem test_decode_a32_single :
    ∀ p ∈ ([
     (0xD51BC332, Instr.ldrImmPre .le false false 11 12 0x332),
     (0x8415B076, Instr.ldrImmPost .hi false 5 11 0x76),
     (0xF71C440B, Instr.ldrRegPre .unknown false false 12 4 ⟨.lsl, 8, 11⟩),
     (0x96957CEB, Instr.ldrRegPost .ls true 5 7 ⟨.ror, 25, 11⟩),
     (0xF43FF5D5, Instr.ldrtImm .unknown false 15 15 0x5D5),
     (0x16313785, Instr.ldrtReg .ne false 1 3 ⟨.lsl, 15, 5⟩),
     (0x3579F9C3, Instr.ldrbImmPre .cc false true 9 15 0x9C3),
     (0xD457EA72, Instr.ldrbImmPost .le false 7 14 0xA72),
     (0x57FA1A8E, Instr.ldrbRegPre .pl true true 10 1 ⟨.lsl, 21, 14⟩),
     (0x66DBC32E, Instr.ldrbRegPost .vs true 11 12 ⟨.lsr, 6, 14⟩),
     (0x247CA551, Instr.ldrbtImm .cs false 12 10 0x551),
     (0x16FFFBA7, Instr.ldrbtReg .ne true 15 15 ⟨.lsr, 23, 7⟩),
     (0x65AF128A, Instr.strImmPre .vs true true 15 1 0x28A),
     (0x2482026B, Instr.strImmPost .cs true 2 0 0x26B),
     (0x97A7C24D, Instr.strRegPre .ls true true 7 12 ⟨.asr, 4, 13⟩),
     (0x9687AEA2, Instr.strRegPost .ls true 7 10 ⟨.lsr, 29, 2⟩),
     (0x84A2003A, Instr.strtImm .hi true 2 0 0x3A),
     (0xC6ABA1CB, Instr.strtReg .gt true 11 10 ⟨.asr, 3, 11⟩),
     (0xE566F31D, Instr.strbImmPre .al false true 6 15 0x31D),
     (0xD4C30407, Instr.strbImmPost .le true 3 0 0x407),
     (0x37683924, Instr.strbRegPre .cc false true 8 3 ⟨.lsr, 18, 4⟩),
     (0x864D20EB, Instr.strbRegPost .hi false 13 2 ⟨.ror, 1, 11⟩),
     (0x54E7A955, Instr.strbtImm .pl true 7 10 0x955),
     (0xD6E86D6E, Instr.strbtReg .le true 8 6 ⟨.ror, 26, 14⟩)] : List (Word × Instr)), decodeWord p.1 = .ok p.2 := by
  repeat' refine List.forall_mem_cons.2 ⟨rfl, ?_⟩
  exact fun _ h => nomatch h

theorem test_decode_a32_half :
    ∀ p ∈ ([
     (0x80D880BD, Instr.ldrhImm .hi false true false 8 8 0x0D),
     (0x7130C0BC, Instr.ldrhReg .vc true false true 0 12 12),
     (0x2049B1B8, Instr.strhImm .cs false false false 9 11 0x18),
     (0x00A880B7, Instr.strhReg .eq false true true 8 8 7),
     (0xC17803D3, Instr.ldrsbImm .gt true false true 8 0 0x33),
     (0x409870D8, Instr.ldrsbReg .mi false true false 8 7 8),
     (0x01F175F9, Instr.ldrshImm .eq true true true 1 7 0x59),
     (0xF1B3B0F4, Instr.ldrshReg .unknown true true true 3 11 4)] : List (Word × Instr)), decodeWord p.1 = .ok p.2 := by
  repeat' refine List.forall_mem_cons.2 ⟨rfl, ?_⟩
  exact fun _ h => nomatch h

theorem test_decode_a32_block :
    ∀ p ∈ ([
     (0x7838CEAF, Instr.ldmda .vc true 8 0xCEAF),
     (0x78BF3F67, Instr.ldmia .vc true 15 0x3F67),
     (0xB93EE041, Instr.ldmdb .lt true 14 0xE041),
     (0xF9B4EC3B, Instr.ldmib .unknown true 4 0xEC3B),
     (0x882F33DD, Instr.stmda .hi true 15 0x33DD),
     (0xD8826AA9, Instr.stmia .le false 2 0x6AA9),
     (0x190750E5, Instr.stmdb .ne false 7 0x50E5),
     (0x19A36DA7, Instr.stmib .ne true 3 0x6DA7)] : List (Word × Instr)), decodeWord p.1 = .ok p.2 := by
  repeat' refine List.forall_mem_cons.2 ⟨rfl, ?_⟩
  exact fun _ h => nomatch h

theorem test_decode_n8_plain_1 :
    ∀ p ∈ ([
     ([0x00], Instr.nop), ([0x02], Instr.ld_mbc_a), ([0x03], Instr.inc_bc), ([0x04], Instr.inc_b),
     ([0x05], Instr.dec_b), ([0x07], Instr.rlca), ([0x09], Instr.add_hl_bc), ([0x0A], Instr.ld_a_mbc),
     ([0x0B], Instr.dec_bc), ([0x0C], Instr.inc_c), ([0x0D], Instr.dec_c), ([0x0F], Instr.rrca),
     ([0x12], Instr.ld_mde_a), ([0x13], Instr.inc_de), ([0x14], Instr.inc_d), ([0x15], Instr.dec_d),
     ([0x17], Instr.rla), ([0x19], Instr.add_hl_de), ([0x1A], Instr.ld_a_mde), ([0x1B], Instr.dec_de),
     ([0x1C], Instr.inc_e), ([0x1D], Instr.dec_e), ([0x1F], Instr.rra), ([0x22], Instr.ld_mhli_a),
     ([0x23], Instr.inc_hl), ([0x24], Instr.inc_h), ([0x25], Instr.dec_h), ([0x27], Instr.daa),
     ([0x29], Instr.add_hl_hl), ([0x2A], Instr.ld_a_mhli), ([0x2B], Instr.dec_hl), ([0x2C], Instr.inc_l)] ++ [
     ([0x2D], Instr.dec_l), ([0x2F], Instr.cpl), ([0x32], Instr.ld_mhld_a), ([0x33], Instr.inc_sp),
     ([0x34], Instr.inc_mhl), ([0x35], Instr.dec_mhl), ([0x37], Instr.scf), ([0x39], Instr.add_hl_sp),
     ([0x3A], Instr.ld_a_mhld), ([0x3B], Instr.dec_sp), ([0x3C], Instr.inc_a), ([0x3D], Instr.dec_a),
     ([0x3F], Instr.ccf), ([0x40], Instr.ld_b_b), ([0x41], Instr.ld_b_c), ([0x42], Instr.ld_b_d),
     ([0x43], Instr.ld_b_e), ([0x44], Instr.ld_b_h), ([0x45], Instr.ld_b_l), ([0x46], Instr.ld_b_mhl),
     ([0x47], Instr.ld_b_a), ([0x48], Instr.ld_c_b), ([0x49], Instr.ld_c_c), ([0x4A], Instr.ld_c_d),
     ([0x4B], Instr.ld_c_e), ([0x4C], Instr.ld_c_h), ([0x4D], Instr.ld_c_l), ([0x4E], Instr.ld_c_mhl),
     ([0x4F], Instr.ld_c_a), ([0x50], Instr.ld_d_b), ([0x51], Instr.ld_d_c), ([0x52], Instr.ld_d_d)] : List (List Byte × Instr)),
      decodeN8 p.1 = .ok (p.2, []) := by
  refine List.forall_mem_append.2 ⟨?_, ?_⟩
  all_goals
    repeat' refine List.forall_mem_cons.2 ⟨rfl, ?_⟩
    exact fun _ h => nomatch h

theorem test_decode_n8_plain_2 :
    ∀ p ∈ ([
     ([0x53], Instr.ld_d_e), ([0x54], Instr.ld_d_h), ([0x55], Instr.ld_d_l), ([0x56], Instr.ld_d_mhl),
     ([0x57], Instr.ld_d_a), ([0x58], Instr.ld_e_b), ([0x59], Instr.ld_e_c), ([0x5A], Instr.ld_e_d),
     ([0x5B], Instr.ld_e_e), ([0x5C], Instr.ld_e_h), ([0x5D], Instr.ld_e_l), ([0x5E], Instr.ld_e_mhl),
     ([0x5F], Instr.ld_e_a), ([0x60], Instr.ld_h_b), ([0x61], Instr.ld_h_c), ([0x62], Instr.ld_h_d),
     ([0x63], Instr.ld_h_e), ([0x64], Instr.ld_h_h), ([0x65], Instr.ld_h_l), ([0x66], Instr.ld_h_mhl),
     ([0x67], Instr.ld_h_a), ([0x68], Instr.ld_l_b), ([0x69], Instr.ld_l_c), ([0x6A], Instr.ld_l_d),
     ([0x6B], Instr.ld_l_e), ([0x6C], Instr.ld_l_h), ([0x6D], Instr.ld_l_l), ([0x6E], Instr.ld_l_mhl),
     ([0x6F], Instr.ld_l_a), ([0x70], Instr.ld_mhl_b), ([0x71], Instr.ld_mhl_c), ([0x72], Instr.ld_mhl_d)] ++ [
     ([0x73], Instr.ld_mhl_e), ([0x74], Instr.ld_mhl_h), ([0x75], Instr.ld_mhl_l), ([0x76], Instr.halt),
     ([0x77], Instr.ld_mhl_a), ([0x78], Instr.ld_a_b), ([0x79], Instr.ld_a_c), ([0x7A], Instr.ld_a_d),
     ([0x7B], Instr.ld_a_e), ([0x7C], Instr.ld_a_h), ([0x7D], Instr.ld_a_l), ([0x7E], Instr.ld_a_mhl),
     ([0x7F], Instr.ld_a_a), ([0x80], Instr.add_a_b), ([0x81], Instr.add_a_c), ([0x82], Instr.add_a_d),
     ([0x83], Instr.add_a_e), ([0x84], Instr.add_a_h), ([0x85], Instr.add_a_l), ([0x86], Instr.add_a_mhl),
     ([0x87], Instr.add_a_a), ([0x88], Instr.adc_a_b), ([0x89], Instr.adc_a_c), ([0x8A], Instr.adc_a_d),
     ([0x8B], Instr.adc_a_e), ([0x8C], Instr.adc_a_h), ([0x8D], Instr.adc_a_l), ([0x8E], Instr.adc_a_mhl),
     ([0x8F], Instr.adc_a_a), ([0x90], Instr.sub_b), ([0x91], Instr.sub_c), ([0x92], Instr.sub_d)] : List (List Byte × Instr)),
      decodeN8 p.1 = .ok (p.2, []) := by
  refine List.forall_mem_append.2 ⟨?_, ?_⟩
  all_goals
    repeat' refine List.forall_mem_cons.2 ⟨rfl, ?_⟩
    exact fun _ h => nomatch h

theorem test_decode_n8_plain_3 :
    ∀ p ∈ ([
     ([0x93], Instr.sub_e), ([0x94], Instr.sub_h), ([0x95], Instr.sub_l), ([0x96], Instr.sub_mhl),
     ([0x97], Instr.sub_a), ([0x98], Instr.sbc_a_b), ([0x99], Instr.sbc_a_c), ([0x9A], Instr.sbc_a_d),
     ([0x9B], Instr.sbc_a_e), ([0x9C], Instr.sbc_a_h), ([0x9D], Instr.sbc_a_l), ([0x9E], Instr.sbc_a_mhl),
     ([0x9F], Instr.sbc_a_a), ([0xA0], Instr.and_b), ([0xA1], Instr.and_c), ([0xA2], Instr.and_d),
     ([0xA3], Instr.and_e), ([0xA4], Instr.and_h), ([0xA5], Instr.and_l), ([0xA6], Instr.and_mhl),
     ([0xA7], Instr.and_a), ([0xA8], Instr.xor_b), ([0xA9], Instr.xor_c), ([0xAA], Instr.xor_d),
     ([0xAB], Instr.xor_e), ([0xAC], Instr.xor_h), ([0xAD], Instr.xor_l), ([0xAE], Instr.xor_mhl),
     ([0xAF], Instr.xor_a), ([0xB0], Instr.or_b), ([0xB1], Instr.or_c), ([0xB2], Instr.or_d)] ++ [
     ([0xB3], Instr.or_e), ([0xB4], Instr.or_h), ([0xB5], Instr.or_l), ([0xB6], Instr.or_mhl),
     ([0xB7], Instr.or_a), ([0xB8], Instr.cp_b), ([0xB9], Instr.cp_c), ([0xBA], Instr.cp_d),
     ([0xBB], Instr.cp_e), ([0xBC], Instr.cp_h), ([0xBD], Instr.cp_l), ([0xBE], Instr.cp_mhl),
     ([0xBF], Instr.cp_a), ([0xC0], Instr.ret_nz), ([0xC1], Instr.pop_bc), ([0xC5], Instr.push_bc),
     ([0xC7], Instr.rst_00), ([0xC8], Instr.ret_z), ([0xC9], Instr.ret), ([0xCF], Instr.rst_08),
     ([0xD0], Instr.ret_nc), ([0xD1], Instr.pop_de), ([0xD5], Instr.push_de), ([0xD7], Instr.rst_10),
     ([0xD8], Instr.ret_c), ([0xDF], Instr.rst_18), ([0xE1], Instr.pop_hl), ([0xE2], Instr.ld_mc_a),
     ([0xE5], Instr.push_hl), ([0xE7], Instr.rst_20), ([0xE9], Instr.jp_hl), ([0xEF], Instr.rst_28)] : List (List Byte × Instr)),
      decodeN8 p.1 = .ok (p.2, []) := by
  refine List.forall_mem_append.2 ⟨?_, ?_⟩
  all_goals
    repeat' refine List.forall_mem_cons.2 ⟨rfl, ?_⟩
    exact fun _ h => nomatch h

theorem test_decode_n8_plain_4 :
    ∀ p ∈ ([
     ([0xF1], Instr.pop_af), ([0xF2], Instr.ld_a_mc), ([0xF5], Instr.push_af), ([0xF7], Instr.rst_30)] ++ [
     ([0xF9], Instr.ld_sp_hl), ([0xFF], Instr.rst_38)] : List (List Byte × Instr)),
      decodeN8 p.1 = .ok (p.2, []) := by
  refine List.forall_mem_append.2 ⟨?_, ?_⟩
  all_goals
    repeat' refine List.forall_mem_cons.2 ⟨rfl, ?_⟩
    exact fun _ h => nomatch h

theorem test_decode_n8_operands :
    ∀ p ∈ ([
     ([0x01, 0xB8, 0x12], Instr.ld_bc_d16 0x12B8), ([0x06, 0x36], Instr.ld_b_d8 0x36), ([0x08, 0x62, 0xAB], Instr.ld_ma16_sp 0xAB62), ([0x0E, 0x4D], Instr.ld_c_d8 0x4D),
     ([0x11, 0xB0, 0xC8], Instr.ld_de_d16 0xC8B0), ([0x16, 0x1F], Instr.ld_d_d8 0x1F), ([0x18, 0xE5], Instr.jr_e8 0xE5), ([0x1E, 0xC6], Instr.ld_e_d8 0xC6),
     ([0x20, 0x27], Instr.jr_nz_e8 0x27), ([0x21, 0x83, 0xF0], Instr.ld_hl_d16 0xF083), ([0x26, 0xB7], Instr.ld_h_d8 0xB7), ([0x28, 0xA4], Instr.jr_z_e8 0xA4),
     ([0x2E, 0xA9], Instr.ld_l_d8 0xA9), ([0x30, 0x5D], Instr.jr_nc_e8 0x5D), ([0x31, 0x9A, 0x24], Instr.ld_sp_d16 0x249A), ([0x36, 0x40], Instr.ld_mhl_d8 0x40),
     ([0x38, 0xE2], Instr.jr_c_e8 0xE2), ([0x3E, 0x23], Instr.ld_a_d8 0x23), ([0xC2, 0xB1, 0xF7], Instr.jp_nz_a16 0xF7B1), ([0xC3, 0xBD, 0x77], Instr.jp_a16 0x77BD)] ++ [
     ([0xC4, 0x36, 0x38], Instr.call_nz_a16 0x3836), ([0xC6, 0xBF], Instr.add_a_d8 0xBF), ([0xCA, 0xD7, 0xF3], Instr.jp_z_a16 0xF3D7), ([0xCC, 0x18, 0x18], Instr.call_z_a16 0x1818),
     ([0xCD, 0xF4, 0x65], Instr.call_a16 0x65F4), ([0xCE, 0xE2], Instr.adc_a_d8 0xE2), ([0xD2, 0xBD, 0x7C], Instr.jp_nc_a16 0x7CBD), ([0xD4, 0xAC, 0x29], Instr.call_nc_a16 0x29AC),
     ([0xD6, 0xFD], Instr.sub_d8 0xFD), ([0xDA, 0xF7, 0xAA], Instr.jp_c_a16 0xAAF7), ([0xDC, 0x1B, 0xD5], Instr.call_c_a16 0xD51B), ([0xDE, 0x39], Instr.sbc_a_d8 0x39),
     ([0xE0, 0x29], Instr.ldh_ma8_a 0x29), ([0xE6, 0xB4], Instr.and_d8 0xB4), ([0xE8, 0x6E], Instr.add_sp_e8 0x6E), ([0xEA, 0x7B, 0xFE], Instr.ld_ma16_a 0xFE7B),
     ([0xEE, 0x83], Instr.xor_d8 0x83), ([0xF0, 0x67], Instr.ldh_a_ma8 0x67), ([0xF6, 0x56], Instr.or_d8 0x56), ([0xF8, 0x6B], Instr.ld_hl_sp_e8 0x6B),
     ([0xFA, 0x1C, 0x32], Instr.ld_a_ma16 0x321C), ([0xFE, 0x5B], Instr.cp_d8 0x5B)] : List (List Byte × Instr)),
      decodeN8 p.1 = .ok (p.2, []) := by
  refine List.forall_mem_append.2 ⟨?_, ?_⟩
  all_goals
    repeat' refine List.forall_mem_cons.2 ⟨rfl, ?_⟩
    exact fun _ h => nomatch h

theorem test_decode_n8_cb_1 :
    ∀ p ∈ ([
     ([0xCB, 0x00], Instr.rlc_b), ([0xCB, 0x01], Instr.rlc_c), ([0xCB, 0x02], Instr.rlc_d), ([0xCB, 0x03], Instr.rlc_e),
     ([0xCB, 0x04], Instr.rlc_h), ([0xCB, 0x05], Instr.rlc_l), ([0xCB, 0x06], Instr.rlc_mhl), ([0xCB, 0x07], Instr.rlc_a),
     ([0xCB, 0x08], Instr.rrc_b), ([0xCB, 0x09], Instr.rrc_c), ([0xCB, 0x0A], Instr.rrc_d), ([0xCB, 0x0B], Instr.rrc_e),
     ([0xCB, 0x0C], Instr.rrc_h), ([0xCB, 0x0D], Instr.rrc_l), ([0xCB, 0x0E], Instr.rrc_mhl), ([0xCB, 0x0F], Instr.rrc_a),
     ([0xCB, 0x10], Instr.rl_b), ([0xCB, 0x11], Instr.rl_c), ([0xCB, 0x12], Instr.rl_d), ([0xCB, 0x13], Instr.rl_e),
     ([0xCB, 0x14], Instr.rl_h), ([0xCB, 0x15], Instr.rl_l), ([0xCB, 0x16], Instr.rl_mhl), ([0xCB, 0x17], Instr.rl_a),
     ([0xCB, 0x18], Instr.rr_b), ([0xCB, 0x19], Instr.rr_c), ([0xCB, 0x1A], Instr.rr_d), ([0xCB, 0x1B], Instr.rr_e),
     ([0xCB, 0x1C], Instr.rr_h), ([0xCB, 0x1D], Instr.rr_l), ([0xCB, 0x1E], Instr.rr_mhl), ([0xCB, 0x1F], Instr.rr_a)] ++ [
     ([0xCB, 0x20], Instr.sla_b), ([0xCB, 0x21], Instr.sla_c), ([0xCB, 0x22], Instr.sla_d), ([0xCB, 0x23], Instr.sla_e),
     ([0xCB, 0x24], Instr.sla_h), ([0xCB, 0x25], Instr.sla_l), ([0xCB, 0x26], Instr.sla_mhl), ([0xCB, 0x27], Instr.sla_a),
     ([0xCB, 0x28], Instr.sra_b), ([0xCB, 0x29], Instr.sra_c), ([0xCB, 0x2A], Instr.sra_d), ([0xCB, 0x2B], Instr.sra_e),
     ([0xCB, 0x2C], Instr.sra_h), ([0xCB, 0x2D], Instr.sra_l), ([0xCB, 0x2E], Instr.sra_mhl), ([0xCB, 0x2F], Instr.sra_a),
     ([0xCB, 0x30], Instr.swap_b), ([0xCB, 0x31], Instr.swap_c), ([0xCB, 0x32], Instr.swap_d), ([0xCB, 0x33], Instr.swap_e),
     ([0xCB, 0x34], Instr.swap_h), ([0xCB, 0x35], Instr.swap_l), ([0xCB, 0x36], Instr.swap_mhl), ([0xCB, 0x37], Instr.swap_a),
     ([0xCB, 0x38], Instr.srl_b), ([0xCB, 0x39], Instr.srl_c), ([0xCB, 0x3A], Instr.srl_d), ([0xCB, 0x3B], Instr.srl_e),
     ([0xCB, 0x3C], Instr.srl_h), ([0xCB, 0x3D], Instr.srl_l), ([0xCB, 0x3E], Instr.srl_mhl), ([0xCB, 0x3F], Instr.srl_a)] : List (List Byte × Instr)),
      decodeN8 p.1 = .ok (p.2, []) := by
  refine List.forall_mem_append.2 ⟨?_, ?_⟩
  all_goals
    repeat' refine List.forall_mem_cons.2 ⟨rfl, ?_⟩
    exact fun _ h => nomatch h

theorem test_decode_n8_cb_2 :
    ∀ p ∈ ([
     ([0xCB, 0x40], Instr.bit_0_b), ([0xCB, 0x41], Instr.bit_0_c), ([0xCB, 0x42], Instr.bit_0_d), ([0xCB, 0x43], Instr.bit_0_e),
     ([0xCB, 0x44], Instr.bit_0_h), ([0xCB, 0x45], Instr.bit_0_l), ([0xCB, 0x46], Instr.bit_0_mhl), ([0xCB, 0x47], Instr.bit_0_a),
     ([0xCB, 0x48], Instr.bit_1_b), ([0xCB, 0x49], Instr.bit_1_c), ([0xCB, 0x4A], Instr.bit_1_d), ([0xCB, 0x4B], Instr.bit_1_e),
     ([0xCB, 0x4C], Instr.bit_1_h), ([0xCB, 0x4D], Instr.bit_1_l), ([0xCB, 0x4E], Instr.bit_1_mhl), ([0xCB, 0x4F], Instr.bit_1_a),
     ([0xCB, 0x50], Instr.bit_2_b), ([0xCB, 0x51], Instr.bit_2_c), ([0xCB, 0x52], Instr.bit_2_d), ([0xCB, 0x53], Instr.bit_2_e),
     ([0xCB, 0x54], Instr.bit_2_h), ([0xCB, 0x55], Instr.bit_2_l), ([0xCB, 0x56], Instr.bit_2_mhl), ([0xCB, 0x57], Instr.bit_2_a),
     ([0xCB, 0x58], Instr.bit_3_b), ([0xCB, 0x59], Instr.bit_3_c), ([0xCB, 0x5A], Instr.bit_3_d), ([0xCB, 0x5B], Instr.bit_3_e),
     ([0xCB, 0x5C], Instr.bit_3_h), ([0xCB, 0x5D], Instr.bit_3_l), ([0xCB, 0x5E], Instr.bit_3_mhl), ([0xCB, 0x5F], Instr.bit_3_a)] ++ [
     ([0xCB, 0x60], Instr.bit_4_b), ([0xCB, 0x61], Instr.bit_4_c), ([0xCB, 0x62], Instr.bit_4_d), ([0xCB, 0x63], Instr.bit_4_e),
     ([0xCB, 0x64], Instr.bit_4_h), ([0xCB, 0x65], Instr.bit_4_l), ([0xCB, 0x66], Instr.bit_4_mhl), ([0xCB, 0x67], Instr.bit_4_a),
     ([0xCB, 0x68], Instr.bit_5_b), ([0xCB, 0x69], Instr.bit_5_c), ([0xCB, 0x6A], Instr.bit_5_d), ([0xCB, 0x6B], Instr.bit_5_e),
     ([0xCB, 0x6C], Instr.bit_5_h), ([0xCB, 0x6D], Instr.bit_5_l), ([0xCB, 0x6E], Instr.bit_5_mhl), ([0xCB, 0x6F], Instr.bit_5_a),
     ([0xCB, 0x70], Instr.bit_6_b), ([0xCB, 0x71], Instr.bit_6_c), ([0xCB, 0x72], Instr.bit_6_d), ([0xCB, 0x73], Instr.bit_6_e),
     ([0xCB, 0x74], Instr.bit_6_h), ([0xCB, 0x75], Instr.bit_6_l), ([0xCB, 0x76], Instr.bit_6_mhl), ([0xCB, 0x77], Instr.bit_6_a),
     ([0xCB, 0x78], Instr.bit_7_b), ([0xCB, 0x79], Instr.bit_7_c), ([0xCB, 0x7A], Instr.bit_7_d), ([0xCB, 0x7B], Instr.bit_7_e),
     ([0xCB, 0x7C], Instr.bit_7_h), ([0xCB, 0x7D], Instr.bit_7_l), ([0xCB, 0x7E], Instr.bit_7_mhl), ([0xCB, 0x7F], Instr.bit_7_a)] : List (List Byte × Instr)),
      decodeN8 p.1 = .ok (p.2, []) := by
  refine List.forall_mem_append.2 ⟨?_, ?_⟩
  all_goals
    repeat' refine List.forall_mem_cons.2 ⟨rfl, ?_⟩
    exact fun _ h => nomatch h

theorem test_decode_n8_cb_3 :
    ∀ p ∈ ([
     ([0xCB, 0x80], Instr.res_0_b), ([0xCB, 0x81], Instr.res_0_c), ([0xCB, 0x82], Instr.res_0_d), ([0xCB, 0x83], Instr.res_0_e),
     ([0xCB, 0x84], Instr.res_0_h), ([0xCB, 0x85], Instr.res_0_l), ([0xCB, 0x86], Instr.res_0_mhl), ([0xCB, 0x87], Instr.res_0_a),
     ([0xCB, 0x88], Instr.res_1_b), ([0xCB, 0x89], Instr.res_1_c), ([0xCB, 0x8A], Instr.res_1_d), ([0xCB, 0x8B], Instr.res_1_e),
     ([0xCB, 0x8C], Instr.res_1_h), ([0xCB, 0x8D], Instr.res_1_l), ([0xCB, 0x8E], Instr.res_1_mhl), ([0xCB, 0x8F], Instr.res_1_a),
     ([0xCB, 0x90], Instr.res_2_b), ([0xCB, 0x91], Instr.res_2_c), ([0xCB, 0x92], Instr.res_2_d), ([0xCB, 0x93], Instr.res_2_e),
     ([0xCB, 0x94], Instr.res_2_h), ([0xCB, 0x95], Instr.res_2_l), ([0xCB, 0x96], Instr.res_2_mhl), ([0xCB, 0x97], Instr.res_2_a),
     ([0xCB, 0x98], Instr.res_3_b), ([0xCB, 0x99], Instr.res_3_c), ([0xCB, 0x9A], Instr.res_3_d), ([0xCB, 0x9B], Instr.res_3_e),
     ([0xCB, 0x9C], Instr.res_3_h), ([0xCB, 0x9D], Instr.res_3_l), ([0xCB, 0x9E], Instr.res_3_mhl), ([0xCB, 0x9F], Instr.res_3_a)] ++ [
     ([0xCB, 0xA0], Instr.res_4_b), ([0xCB, 0xA1], Instr.res_4_c), ([0xCB, 0xA2], Instr.res_4_d), ([0xCB, 0xA3], Instr.res_4_e),
     ([0xCB, 0xA4], Instr.res_4_h), ([0xCB, 0xA5], Instr.res_4_l), ([0xCB, 0xA6], Instr.res_4_mhl), ([0xCB, 0xA7], Instr.res_4_a),
     ([0xCB, 0xA8], Instr.res_5_b), ([0xCB, 0xA9], Instr.res_5_c), ([0xCB, 0xAA], Instr.res_5_d), ([0xCB, 0xAB], Instr.res_5_e),
     ([0xCB, 0xAC], Instr.res_5_h), ([0xCB, 0xAD], Instr.res_5_l), ([0xCB, 0xAE], Instr.res_5_mhl), ([0xCB, 0xAF], Instr.res_5_a),
     ([0xCB, 0xB0], Instr.res_6_b), ([0xCB, 0xB1], Instr.res_6_c), ([0xCB, 0xB2], Instr.res_6_d), ([0xCB, 0xB3], Instr.res_6_e),
     ([0xCB, 0xB4], Instr.res_6_h), ([0xCB, 0xB5], Instr.res_6_l), ([0xCB, 0xB6], Instr.res_6_mhl), ([0xCB, 0xB7], Instr.res_6_a),
     ([0xCB, 0xB8], Instr.res_7_b), ([0xCB, 0xB9], Instr.res_7_c), ([0xCB, 0xBA], Instr.res_7_d), ([0xCB, 0xBB], Instr.res_7_e),
     ([0xCB, 0xBC], Instr.res_7_h), ([0xCB, 0xBD], Instr.res_7_l), ([0xCB, 0xBE], Instr.res_7_mhl), ([0xCB, 0xBF], Instr.res_7_a)] : List (List Byte × Instr)),
      decodeN8 p.1 = .ok (p.2, []) := by
  refine List.forall_mem_append.2 ⟨?_, ?_⟩
  all_goals
    repeat' refine List.forall_mem_cons.2 ⟨rfl, ?_⟩
    exact fun _ h => nomatch h

theorem test_decode_n8_cb_4 :
    ∀ p ∈ ([
     ([0xCB, 0xC0], Instr.set_0_b), ([0xCB, 0xC1], Instr.set_0_c), ([0xCB, 0xC2], Instr.set_0_d), ([0xCB, 0xC3], Instr.set_0_e),
     ([0xCB, 0xC4], Instr.set_0_h), ([0xCB, 0xC5], Instr.set_0_l), ([0xCB, 0xC6], Instr.set_0_mhl), ([0xCB, 0xC7], Instr.set_0_a),
     ([0xCB, 0xC8], Instr.set_1_b), ([0xCB, 0xC9], Instr.set_1_c), ([0xCB, 0xCA], Instr.set_1_d), ([0xCB, 0xCB], Instr.set_1_e),
     ([0xCB, 0xCC], Instr.set_1_h), ([0xCB, 0xCD], Instr.set_1_l), ([0xCB, 0xCE], Instr.set_1_mhl), ([0xCB, 0xCF], Instr.set_1_a),
     ([0xCB, 0xD0], Instr.set_2_b), ([0xCB, 0xD1], Instr.set_2_c), ([0xCB, 0xD2], Instr.set_2_d), ([0xCB, 0xD3], Instr.set_2_e),
     ([0xCB, 0xD4], Instr.set_2_h), ([0xCB, 0xD5], Instr.set_2_l), ([0xCB, 0xD6], Instr.set_2_mhl), ([0xCB, 0xD7], Instr.set_2_a),
     ([0xCB, 0xD8], Instr.set_3_b), ([0xCB, 0xD9], Instr.set_3_c), ([0xCB, 0xDA], Instr.set_3_d), ([0xCB, 0xDB], Instr.set_3_e),
     ([0xCB, 0xDC], Instr.set_3_h), ([0xCB, 0xDD], Instr.set_3_l), ([0xCB, 0xDE], Instr.set_3_mhl), ([0xCB, 0xDF], Instr.set_3_a)] ++ [
     ([0xCB, 0xE0], Instr.set_4_b), ([0xCB, 0xE1], Instr.set_4_c), ([0xCB, 0xE2], Instr.set_4_d), ([0xCB, 0xE3], Instr.set_4_e),
     ([0xCB, 0xE4], Instr.set_4_h), ([0xCB, 0xE5], Instr.set_4_l), ([0xCB, 0xE6], Instr.set_4_mhl), ([0xCB, 0xE7], Instr.set_4_a),
     ([0xCB, 0xE8], Instr.set_5_b), ([0xCB, 0xE9], Instr.set_5_c), ([0xCB, 0xEA], Instr.set_5_d), ([0xCB, 0xEB], Instr.set_5_e),
     ([0xCB, 0xEC], Instr.set_5_h), ([0xCB, 0xED], Instr.set_5_l), ([0xCB, 0xEE], Instr.set_5_mhl), ([0xCB, 0xEF], Instr.set_5_a),
     ([0xCB, 0xF0], Instr.set_6_b), ([0xCB, 0xF1], Instr.set_6_c), ([0xCB, 0xF2], Instr.set_6_d), ([0xCB, 0xF3], Instr.set_6_e),
     ([0xCB, 0xF4], Instr.set_6_h), ([0xCB, 0xF5], Instr.set_6_l), ([0xCB, 0xF6], Instr.set_6_mhl), ([0xCB, 0xF7], Instr.set_6_a),
     ([0xCB, 0xF8], Instr.set_7_b), ([0xCB, 0xF9], Instr.set_7_c), ([0xCB, 0xFA], Instr.set_7_d), ([0xCB, 0xFB], Instr.set_7_e),
     ([0xCB, 0xFC], Instr.set_7_h), ([0xCB, 0xFD], Instr.set_7_l), ([0xCB, 0xFE], Instr.set_7_mhl), ([0xCB, 0xFF], Instr.set_7_a)] : List (List Byte × Instr)),
      decodeN8 p.1 = .ok (p.2, []) := by
  refine List.forall_mem_append.2 ⟨?_, ?_⟩
  all_goals
    repeat' refine List.forall_mem_cons.2 ⟨rfl, ?_⟩
    exact fun _ h => nomatch h

/-! ## Single steps (95_test_vectors.md)

Each row is one step from the start state of vector T1: the instruction at the entry address, the registers, the status and
the bytes named, everything else at its reset value. Expected values are the table's own. -/

/-- A row of T12 to T18: the word, registers, status word and bytes before; registers (R15 where it is not 0x08000004), status
word, bytes changed and cycles after. -/
structure A32Row where
  word : Word
  regs : List (Reg × Word)
  status : Word
  cells : List Host.Cell
  regs' : List (Reg × Word)
  status' : Word
  cells' : List Host.Cell
  cycles : Nat

/-- A row of T19 to T24: the bytes, registers A, F, B, C, D, E, H, L, SP and bytes before; the same with PC after. -/
structure N8Row where
  code : List Byte
  n8 : N8File
  sp : Half
  cells : List Host.Cell
  n8' : N8File
  sp' : Half
  pc' : Half
  cells' : List Host.Cell
  cycles : Nat

/-- Bytes set one by one. -/
def setCells (m : List Host.Cell) (cells : List Host.Cell) : List Host.Cell :=
  cells.foldl (fun m c => Memory.set m c.1 c.2) m

/-- Registers set one by one. -/
def setRegs (s : State) (regs : List (Reg × Word)) : State := regs.foldl (fun s p => s.setX p.1 p.2) s

/-- An A32 core about to run a word at 0x08000000. -/
def startA32 (word : Word) (regs : List (Reg × Word)) (status : Word) (cells : List Host.Cell) : State :=
  setRegs { State.reset with sw := status, mem := setCells (storeFrom [] 0x08000000 (bytesOf 4 word)) cells }
    ((15, 0x08000000) :: regs)

/-- An N8 core about to run bytes at 0x0100. -/
def startN8 (code : List Byte) (n8 : N8File) (sp : Half) (cells : List Host.Cell) : State :=
  { State.reset with cfg := Config.n8, n8 := n8, sp := sp, pc := 0x0100, mem := setCells (storeFrom [] 0x0100 code) cells }

/-- The state a step answers. -/
def nextOf : Result → Option State
  | .next t => some t
  | .fault _ => none
  | .refused _ => none

/-- The fault a step ends in. -/
def faultOf : Result → Option Fault
  | .next _ => none
  | .fault f => some f
  | .refused _ => none

/-- The step of a row ends as the row says. -/
def A32Row.holds (p : A32Row) : Bool :=
  let s := startA32 p.word p.regs p.status p.cells
  match nextOf (step s) with
  | none => false
  | some t => t.x == (setRegs s ((15, 0x08000004) :: p.regs')).x && t.sw == p.status' && t.mem == setCells s.mem p.cells'
      && t.lastCycles == some p.cycles && t.running

/-- The step of a row ends as the row says. -/
def N8Row.holds (p : N8Row) : Bool :=
  let s := startN8 p.code p.n8 p.sp p.cells
  match nextOf (step s) with
  | none => false
  | some t => t.n8 == p.n8' && t.sp == p.sp' && t.pc == p.pc' && t.mem == setCells s.mem p.cells'
      && t.lastCycles == some p.cycles && t.running

/-- The step of a word ends in a `DecodeError` with the reason, and nothing is committed but the latch (T1). -/
def refuses (word : Word) (regs : List (Reg × Word)) (reason : DecodeReason) : Bool :=
  faultOf (step (startA32 word regs 0xD3 [])) == some (.decode ⟨.a32, 0x08000000, word, 0⟩ word 0x08000000 reason)

/-- 95_test_vectors.md T12. -/
theorem test_a32_data_processing : ∀ p ∈ ([
     ⟨0xE0910002, [(1, 0x7FFFFFFF), (2, 0x1)], 0x000000D3, [],
      [(0, 0x80000000)], 0x900000D3, [], 1⟩,
     ⟨0xE0910002, [(1, 0xFFFFFFFF), (2, 0x1)], 0x000000D3, [],
      [], 0x600000D3, [], 1⟩,
     ⟨0xE0510002, [(2, 0x1)], 0x000000D3, [],
      [(0, 0xFFFFFFFF)], 0x800000D3, [], 1⟩,
     ⟨0xE0510002, [(1, 0x5), (2, 0x5)], 0x000000D3, [],
      [], 0x600000D3, [], 1⟩,
     ⟨0xE0510002, [(1, 0x80000000), (2, 0x1)], 0x000000D3, [],
      [(0, 0x7FFFFFFF)], 0x300000D3, [], 1⟩,
     ⟨0xE0710002, [(1, 0x1)], 0x000000D3, [],
      [(0, 0xFFFFFFFF)], 0x800000D3, [], 1⟩,
     ⟨0xE0B10002, [(1, 0xFFFFFFFF)], 0x200000D3, [],
      [], 0x600000D3, [], 1⟩,
     ⟨0xE0D10002, [(1, 0x5), (2, 0x3)], 0x000000D3, [],
      [(0, 0x1)], 0x200000D3, [], 1⟩,
     ⟨0xE0F10002, [(1, 0x3), (2, 0x5)], 0x200000D3, [],
      [(0, 0x2)], 0x200000D3, [], 1⟩,
     ⟨0xE1110002, [(1, 0xF0), (2, 0xF)], 0x000000D3, [],
      [], 0x400000D3, [], 1⟩,
     ⟨0xE1310001, [(1, 0x80000000)], 0x000000D3, [],
      [], 0x400000D3, [], 1⟩,
     ⟨0xE1710002, [(1, 0xFFFFFFFF), (2, 0x1)], 0x000000D3, [],
      [], 0x600000D3, [], 1⟩,
     ⟨0xE1510002, [(1, 0x1), (2, 0x2)], 0x000000D3, [],
      [], 0x800000D3, [], 1⟩,
     ⟨0xE1C10002, [(1, 0xFF), (2, 0xF)], 0x000000D3, [],
      [(0, 0xF0)], 0x000000D3, [], 1⟩,
     ⟨0xE1E00001, [], 0x000000D3, [],
      [(0, 0xFFFFFFFF)], 0x000000D3, [], 1⟩,
     ⟨0xE3A00FFF, [], 0x000000D3, [],
      [(0, 0x3FC)], 0x000000D3, [], 1⟩,
     ⟨0xE3B004FF, [], 0x000000D3, [],
      [(0, 0xFF000000)], 0xA00000D3, [], 1⟩,
     ⟨0xE3B000FF, [], 0x200000D3, [],
      [(0, 0xFF)], 0x200000D3, [], 1⟩,
     ⟨0xE1B00081, [(1, 0x80000001)], 0x000000D3, [],
      [(0, 0x2)], 0x200000D3, [], 1⟩,
     ⟨0xE1B00021, [(1, 0x80000000)], 0x000000D3, [],
      [], 0x600000D3, [], 1⟩,
     ⟨0xE1B00041, [(1, 0x80000000)], 0x000000D3, [],
      [(0, 0xFFFFFFFF)], 0xA00000D3, [], 1⟩,
     ⟨0xE1B00061, [(1, 0x3)], 0x200000D3, [],
      [(0, 0x80000001)], 0xA00000D3, [], 1⟩,
     ⟨0xE1B00261, [(1, 0xF1)], 0x000000D3, [],
      [(0, 0x1000000F)], 0x000000D3, [], 1⟩,
     ⟨0xE1B00211, [(1, 0x80000001)], 0x200000D3, [],
      [(0, 0x80000001)], 0xA00000D3, [], 2⟩,
     ⟨0xE1B00211, [(1, 0x80000001), (2, 0x20)], 0x000000D3, [],
      [], 0x600000D3, [], 2⟩,
     ⟨0xE1B00211, [(1, 0x80000001), (2, 0x21)], 0x000000D3, [],
      [], 0x400000D3, [], 2⟩,
     ⟨0xE1B00231, [(1, 0x80000001), (2, 0x20)], 0x000000D3, [],
      [], 0x600000D3, [], 2⟩,
     ⟨0xE1B00251, [(1, 0x80000001), (2, 0x28)], 0x000000D3, [],
      [(0, 0xFFFFFFFF)], 0xA00000D3, [], 2⟩,
     ⟨0xE1B00271, [(1, 0x80000001), (2, 0x20)], 0x000000D3, [],
      [(0, 0x80000001)], 0xA00000D3, [], 2⟩,
     ⟨0xE1B00271, [(1, 0x80000001), (2, 0x121)], 0x000000D3, [],
      [(0, 0xC0000000)], 0xA00000D3, [], 2⟩,
     ⟨0xE081F002, [(1, 0x8000100), (2, 0x2)], 0x000000D3, [],
      [(15, 0x8000100)], 0x000000D3, [], 3⟩,
     ⟨0xE08F0000, [], 0x000000D3, [],
      [(0, 0x8000008)], 0x000000D3, [], 1⟩,
     ⟨0x0A000000, [], 0x000000D3, [],
      [], 0x000000D3, [], 1⟩,
     ⟨0xF3A00001, [], 0x000000D3, [],
      [(0, 0x1)], 0x000000D3, [], 1⟩] : List A32Row), p.holds = true := by
  decide +kernel

/-- 95_test_vectors.md T13. -/
theorem test_a32_branch : ∀ p ∈ ([
     ⟨0xEAFFFFFE, [], 0x000000D3, [],
      [(15, 0x8000000)], 0x000000D3, [], 3⟩,
     ⟨0xEA000000, [], 0x000000D3, [],
      [(15, 0x8000008)], 0x000000D3, [], 3⟩,
     ⟨0xEAFFFFFF, [], 0x000000D3, [],
      [], 0x000000D3, [], 3⟩,
     ⟨0xEB000010, [], 0x000000D3, [],
      [(14, 0x8000004), (15, 0x8000048)], 0x000000D3, [], 3⟩,
     ⟨0xEA800000, [], 0x000000D3, [],
      [(15, 0x6000008)], 0x000000D3, [], 3⟩,
     ⟨0xE12FFF11, [(1, 0x3000101)], 0x000000D3, [],
      [(15, 0x3000100)], 0x000000F3, [], 3⟩,
     ⟨0xE12FFF11, [(1, 0x3000102)], 0x000000D3, [],
      [(15, 0x3000100)], 0x000000D3, [], 3⟩,
     ⟨0xE12FFF1F, [], 0x000000D3, [],
      [(15, 0x8000008)], 0x000000D3, [], 3⟩] : List A32Row), p.holds = true := by
  decide +kernel

/-- 95_test_vectors.md T14. -/
theorem test_a32_multiply : ∀ p ∈ ([
     ⟨0xE0000291, [(1, 0x3), (2, 0x4)], 0x000000D3, [],
      [(0, 0xC)], 0x000000D3, [], 2⟩,
     ⟨0xE0000291, [(1, 0xFFFFFFFF), (2, 0xFFFFFFFF)], 0x000000D3, [],
      [(0, 0x1)], 0x000000D3, [], 2⟩,
     ⟨0xE0000291, [(1, 0x2), (2, 0x12345)], 0x000000D3, [],
      [(0, 0x2468A)], 0x000000D3, [], 4⟩,
     ⟨0xE0000291, [(1, 0x2), (2, 0x12345678)], 0x000000D3, [],
      [(0, 0x2468ACF0)], 0x000000D3, [], 5⟩,
     ⟨0xE0203291, [(1, 0x6), (2, 0x7), (3, 0x64)], 0x000000D3, [],
      [(0, 0x8E)], 0x000000D3, [], 3⟩,
     ⟨0xE0843291, [(1, 0xFFFFFFFF), (2, 0x2)], 0x000000D3, [],
      [(3, 0xFFFFFFFE), (4, 0x1)], 0x000000D3, [], 3⟩,
     ⟨0xE0C43291, [(1, 0xFFFFFFFF), (2, 0x2)], 0x000000D3, [],
      [(3, 0xFFFFFFFE), (4, 0xFFFFFFFF)], 0x000000D3, [], 3⟩,
     ⟨0xE0A43291, [(1, 0xFFFFFFFF), (2, 0x2), (3, 0xFFFFFFFF)], 0x000000D3, [],
      [(3, 0xFFFFFFFD), (4, 0x2)], 0x000000D3, [], 4⟩,
     ⟨0xE0E43291, [(1, 0xFFFFFFFF), (2, 0x1), (3, 0x1)], 0x000000D3, [],
      [(3, 0x0)], 0x000000D3, [], 4⟩] : List A32Row), p.holds = true := by
  decide +kernel

/-- 95_test_vectors.md T15. -/
theorem test_a32_status : ∀ p ∈ ([
     ⟨0xE10F0000, [], 0x000000D3, [],
      [(0, 0xD3)], 0x000000D3, [], 1⟩,
     ⟨0xE121F000, [(0, 0x13)], 0x000000D3, [],
      [], 0x00000013, [], 1⟩,
     ⟨0xE328F20F, [], 0x000000D3, [],
      [], 0xF00000D3, [], 1⟩] : List A32Row), p.holds = true := by
  decide +kernel

/-- 95_test_vectors.md T16. -/
theorem test_a32_transfer : ∀ p ∈ ([
     ⟨0xE5910000, [(1, 0x3000000)], 0x000000D3, [(0x3000000, 0x44), (0x3000001, 0x33), (0x3000002, 0x22), (0x3000003, 0x11)],
      [(0, 0x11223344)], 0x000000D3, [], 3⟩,
     ⟨0xE5910000, [(1, 0x3000001)], 0x000000D3, [(0x3000000, 0x44), (0x3000001, 0x33), (0x3000002, 0x22), (0x3000003, 0x11)],
      [(0, 0x44112233)], 0x000000D3, [], 3⟩,
     ⟨0xE5910000, [(1, 0x3000003)], 0x000000D3, [(0x3000000, 0x44), (0x3000001, 0x33), (0x3000002, 0x22), (0x3000003, 0x11)],
      [(0, 0x22334411)], 0x000000D3, [], 3⟩,
     ⟨0xE4910004, [(1, 0x3000000)], 0x000000D3, [(0x3000000, 0x01), (0x3000001, 0x00), (0x3000002, 0x00), (0x3000003, 0x00)],
      [(0, 0x1), (1, 0x3000004)], 0x000000D3, [], 3⟩,
     ⟨0xE5310004, [(1, 0x3000004)], 0x000000D3, [(0x3000000, 0x01), (0x3000001, 0x00), (0x3000002, 0x00), (0x3000003, 0x00)],
      [(0, 0x1), (1, 0x3000000)], 0x000000D3, [], 3⟩,
     ⟨0xE7910102, [(1, 0x3000000), (2, 0x1)], 0x000000D3, [(0x3000004, 0x09), (0x3000005, 0x00), (0x3000006, 0x00), (0x3000007, 0x00)],
      [(0, 0x9)], 0x000000D3, [], 3⟩,
     ⟨0xE591F000, [(1, 0x3000000)], 0x000000D3, [(0x3000000, 0x03), (0x3000001, 0x01), (0x3000002, 0x00), (0x3000003, 0x08)],
      [(15, 0x8000100)], 0x000000D3, [], 5⟩,
     ⟨0xE5D10003, [(1, 0x2000000)], 0x000000D3, [(0x2000003, 0x80)],
      [(0, 0x80)], 0x000000D3, [], 3⟩,
     ⟨0xE5810000, [(0, 0xDEADBEEF), (1, 0x3000006)], 0x000000D3, [],
      [], 0x000000D3, [(0x3000004, 0xEF), (0x3000005, 0xBE), (0x3000006, 0xAD), (0x3000007, 0xDE)], 2⟩,
     ⟨0xE581F000, [(1, 0x3000000)], 0x000000D3, [],
      [], 0x000000D3, [(0x3000000, 0x0C), (0x3000003, 0x08)], 2⟩,
     ⟨0xE5E10001, [(0, 0x12345678), (1, 0x3000000)], 0x000000D3, [],
      [(1, 0x3000001)], 0x000000D3, [(0x3000001, 0x78)], 2⟩,
     ⟨0xE1D100B2, [(1, 0x3000000)], 0x000000D3, [(0x3000002, 0x34), (0x3000003, 0x12)],
      [(0, 0x1234)], 0x000000D3, [], 3⟩,
     ⟨0xE1D100B1, [(1, 0x3000000)], 0x000000D3, [(0x3000000, 0x34), (0x3000001, 0x12)],
      [(0, 0x34000012)], 0x000000D3, [], 3⟩,
     ⟨0xE0D100B2, [(1, 0x3000000)], 0x000000D3, [(0x3000000, 0x34), (0x3000001, 0x12)],
      [(0, 0x1234), (1, 0x3000002)], 0x000000D3, [], 3⟩,
     ⟨0xE1D100D0, [(1, 0x3000000)], 0x000000D3, [(0x3000000, 0x7F)],
      [(0, 0x7F)], 0x000000D3, [], 3⟩,
     ⟨0xE1D100F1, [(1, 0x3000000)], 0x000000D3, [(0x3000000, 0x00), (0x3000001, 0x80)],
      [(0, 0xFFFFFF80)], 0x000000D3, [], 3⟩,
     ⟨0xE1C100B3, [(0, 0xAABBCCDD), (1, 0x3000000)], 0x000000D3, [],
      [], 0x000000D3, [(0x3000002, 0xDD), (0x3000003, 0xCC)], 2⟩] : List A32Row), p.holds = true := by
  decide +kernel

/-- 95_test_vectors.md T17. -/
theorem test_a32_block_swap : ∀ p ∈ ([
     ⟨0xE8B0000E, [(0, 0x3000000)], 0x000000D3, [(0x3000000, 0x01), (0x3000001, 0x00), (0x3000002, 0x00), (0x3000003, 0x00), (0x3000004, 0x02), (0x3000005, 0x00), (0x3000006, 0x00), (0x3000007, 0x00), (0x3000008, 0x03), (0x3000009, 0x00), (0x300000A, 0x00), (0x300000B, 0x00)],
      [(0, 0x300000C), (1, 0x1), (2, 0x2), (3, 0x3)], 0x000000D3, [], 5⟩,
     ⟨0xE9B0000E, [(0, 0x3000000)], 0x000000D3, [(0x3000004, 0x01), (0x3000005, 0x00), (0x3000006, 0x00), (0x3000007, 0x00), (0x3000008, 0x02), (0x3000009, 0x00), (0x300000A, 0x00), (0x300000B, 0x00), (0x300000C, 0x03), (0x300000D, 0x00), (0x300000E, 0x00), (0x300000F, 0x00)],
      [(0, 0x300000C), (1, 0x1), (2, 0x2), (3, 0x3)], 0x000000D3, [], 5⟩,
     ⟨0xE830000E, [(0, 0x3000008)], 0x000000D3, [(0x3000000, 0x01), (0x3000001, 0x00), (0x3000002, 0x00), (0x3000003, 0x00), (0x3000004, 0x02), (0x3000005, 0x00), (0x3000006, 0x00), (0x3000007, 0x00), (0x3000008, 0x03), (0x3000009, 0x00), (0x300000A, 0x00), (0x300000B, 0x00)],
      [(0, 0x2FFFFFC), (1, 0x1), (2, 0x2), (3, 0x3)], 0x000000D3, [], 5⟩,
     ⟨0xE930000E, [(0, 0x300000C)], 0x000000D3, [(0x3000000, 0x01), (0x3000001, 0x00), (0x3000002, 0x00), (0x3000003, 0x00), (0x3000004, 0x02), (0x3000005, 0x00), (0x3000006, 0x00), (0x3000007, 0x00), (0x3000008, 0x03), (0x3000009, 0x00), (0x300000A, 0x00), (0x300000B, 0x00)],
      [(0, 0x3000000), (1, 0x1), (2, 0x2), (3, 0x3)], 0x000000D3, [], 5⟩,
     ⟨0xE92D4010, [(4, 0x44), (13, 0x3007F00), (14, 0x8000104)], 0x000000D3, [],
      [(13, 0x3007EF8)], 0x000000D3, [(0x3007EF8, 0x44), (0x3007EFC, 0x04), (0x3007EFD, 0x01), (0x3007EFF, 0x08)], 3⟩,
     ⟨0xE8BD8010, [(13, 0x3007EF8)], 0x000000D3, [(0x3007EF8, 0x44), (0x3007EF9, 0x00), (0x3007EFA, 0x00), (0x3007EFB, 0x00), (0x3007EFC, 0x05), (0x3007EFD, 0x01), (0x3007EFE, 0x00), (0x3007EFF, 0x08)],
      [(4, 0x44), (13, 0x3007F00), (15, 0x8000104)], 0x000000D3, [], 6⟩,
     ⟨0xE8808000, [(0, 0x3000000)], 0x000000D3, [],
      [], 0x000000D3, [(0x3000000, 0x0C), (0x3000003, 0x08)], 2⟩,
     ⟨0xE8A00003, [(0, 0x3000000), (1, 0x7)], 0x000000D3, [],
      [(0, 0x3000008)], 0x000000D3, [(0x3000003, 0x03), (0x3000004, 0x07)], 3⟩,
     ⟨0xE1010092, [(1, 0x3000000), (2, 0x55)], 0x000000D3, [(0x3000000, 0x11), (0x3000001, 0x22), (0x3000002, 0x33), (0x3000003, 0x44)],
      [(0, 0x44332211)], 0x000000D3, [(0x3000000, 0x55), (0x3000001, 0x00), (0x3000002, 0x00), (0x3000003, 0x00)], 4⟩,
     ⟨0xE1010092, [(1, 0x3000002), (2, 0x55)], 0x000000D3, [(0x3000000, 0x11), (0x3000001, 0x22), (0x3000002, 0x33), (0x3000003, 0x44)],
      [(0, 0x22114433)], 0x000000D3, [(0x3000000, 0x55), (0x3000001, 0x00), (0x3000002, 0x00), (0x3000003, 0x00)], 4⟩,
     ⟨0xE1410092, [(1, 0x3000001), (2, 0x55)], 0x000000D3, [(0x3000000, 0x11), (0x3000001, 0x22), (0x3000002, 0x33), (0x3000003, 0x44)],
      [(0, 0x22)], 0x000000D3, [(0x3000001, 0x55)], 4⟩] : List A32Row), p.holds = true := by
  decide +kernel

/-- 95_test_vectors.md T18. -/
theorem test_a32_step : ∀ p ∈ ([
     ⟨0x0E000000, [], 0x000000D3, [],
      [], 0x000000D3, [], 1⟩,
     ⟨0xE1A00000, [], 0x000000D3, [],
      [], 0x000000D3, [], 1⟩] : List A32Row), p.holds = true := by
  decide +kernel

/-- 95_test_vectors.md T19. -/
theorem test_n8_loads : ∀ p ∈ ([
     ⟨[0x41], ⟨0x00, 0x00, 0x00, 0x5A, 0x00, 0x00, 0x00, 0x00⟩, 0xFFFE, [],
      ⟨0x00, 0x00, 0x5A, 0x5A, 0x00, 0x00, 0x00, 0x00⟩, 0xFFFE, 0x0101, [], 4⟩,
     ⟨[0x7E], ⟨0x00, 0x00, 0x00, 0x00, 0x00, 0x00, 0xC0, 0x00⟩, 0xFFFE, [(0xC000, 0x99)],
      ⟨0x99, 0x00, 0x00, 0x00, 0x00, 0x00, 0xC0, 0x00⟩, 0xFFFE, 0x0101, [], 8⟩,
     ⟨[0x70], ⟨0x00, 0x00, 0x12, 0x00, 0x00, 0x00, 0xC0, 0x00⟩, 0xFFFE, [],
      ⟨0x00, 0x00, 0x12, 0x00, 0x00, 0x00, 0xC0, 0x00⟩, 0xFFFE, 0x0101, [(0xC000, 0x12)], 8⟩,
     ⟨[0x36, 0x77], ⟨0x00, 0x00, 0x00, 0x00, 0x00, 0x00, 0xC0, 0x00⟩, 0xFFFE, [],
      ⟨0x00, 0x00, 0x00, 0x00, 0x00, 0x00, 0xC0, 0x00⟩, 0xFFFE, 0x0102, [(0xC000, 0x77)], 12⟩,
     ⟨[0x3E, 0xFF], ⟨0x00, 0x00, 0x00, 0x00, 0x00, 0x00, 0x00, 0x00⟩, 0xFFFE, [],
      ⟨0xFF, 0x00, 0x00, 0x00, 0x00, 0x00, 0x00, 0x00⟩, 0xFFFE, 0x0102, [], 8⟩,
     ⟨[0x0A], ⟨0x00, 0x00, 0xC0, 0x01, 0x00, 0x00, 0x00, 0x00⟩, 0xFFFE, [(0xC001, 0x42)],
      ⟨0x42, 0x00, 0xC0, 0x01, 0x00, 0x00, 0x00, 0x00⟩, 0xFFFE, 0x0101, [], 8⟩,
     ⟨[0x12], ⟨0x24, 0x00, 0x00, 0x00, 0xC0, 0x02, 0x00, 0x00⟩, 0xFFFE, [],
      ⟨0x24, 0x00, 0x00, 0x00, 0xC0, 0x02, 0x00, 0x00⟩, 0xFFFE, 0x0101, [(0xC002, 0x24)], 8⟩,
     ⟨[0x22], ⟨0x11, 0x00, 0x00, 0x00, 0x00, 0x00, 0xC0, 0x00⟩, 0xFFFE, [],
      ⟨0x11, 0x00, 0x00, 0x00, 0x00, 0x00, 0xC0, 0x01⟩, 0xFFFE, 0x0101, [(0xC000, 0x11)], 8⟩,
     ⟨[0x3A], ⟨0x00, 0x00, 0x00, 0x00, 0x00, 0x00, 0xC0, 0x00⟩, 0xFFFE, [(0xC000, 0x66)],
      ⟨0x66, 0x00, 0x00, 0x00, 0x00, 0x00, 0xBF, 0xFF⟩, 0xFFFE, 0x0101, [], 8⟩,
     ⟨[0x2A], ⟨0x00, 0x00, 0x00, 0x00, 0x00, 0x00, 0xFF, 0xFF⟩, 0xFFFE, [],
      ⟨0x00, 0x00, 0x00, 0x00, 0x00, 0x00, 0x00, 0x00⟩, 0xFFFE, 0x0101, [], 8⟩,
     ⟨[0xFA, 0x34, 0xC2], ⟨0x00, 0x00, 0x00, 0x00, 0x00, 0x00, 0x00, 0x00⟩, 0xFFFE, [(0xC234, 0xAB)],
      ⟨0xAB, 0x00, 0x00, 0x00, 0x00, 0x00, 0x00, 0x00⟩, 0xFFFE, 0x0103, [], 16⟩,
     ⟨[0xEA, 0x00, 0xD0], ⟨0x5C, 0x00, 0x00, 0x00, 0x00, 0x00, 0x00, 0x00⟩, 0xFFFE, [],
      ⟨0x5C, 0x00, 0x00, 0x00, 0x00, 0x00, 0x00, 0x00⟩, 0xFFFE, 0x0103, [(0xD000, 0x5C)], 16⟩,
     ⟨[0xE0, 0x85], ⟨0x01, 0x00, 0x00, 0x00, 0x00, 0x00, 0x00, 0x00⟩, 0xFFFE, [],
      ⟨0x01, 0x00, 0x00, 0x00, 0x00, 0x00, 0x00, 0x00⟩, 0xFFFE, 0x0102, [(0xFF85, 0x01)], 12⟩,
     ⟨[0xF0, 0x80], ⟨0x00, 0x00, 0x00, 0x00, 0x00, 0x00, 0x00, 0x00⟩, 0xFFFE, [(0xFF80, 0x3C)],
      ⟨0x3C, 0x00, 0x00, 0x00, 0x00, 0x00, 0x00, 0x00⟩, 0xFFFE, 0x0102, [], 12⟩,
     ⟨[0xE2], ⟨0x07, 0x00, 0x00, 0x90, 0x00, 0x00, 0x00, 0x00⟩, 0xFFFE, [],
      ⟨0x07, 0x00, 0x00, 0x90, 0x00, 0x00, 0x00, 0x00⟩, 0xFFFE, 0x0101, [(0xFF90, 0x07)], 8⟩,
     ⟨[0xF2], ⟨0x00, 0x00, 0x00, 0xFF, 0x00, 0x00, 0x00, 0x00⟩, 0xFFFE, [(0xFFFF, 0x1F)],
      ⟨0x1F, 0x00, 0x00, 0xFF, 0x00, 0x00, 0x00, 0x00⟩, 0xFFFE, 0x0101, [], 8⟩,
     ⟨[0x01, 0x34, 0x12], ⟨0x00, 0x00, 0x00, 0x00, 0x00, 0x00, 0x00, 0x00⟩, 0xFFFE, [],
      ⟨0x00, 0x00, 0x12, 0x34, 0x00, 0x00, 0x00, 0x00⟩, 0xFFFE, 0x0103, [], 12⟩,
     ⟨[0x31, 0xFE, 0xFF], ⟨0x00, 0x00, 0x00, 0x00, 0x00, 0x00, 0x00, 0x00⟩, 0x0000, [],
      ⟨0x00, 0x00, 0x00, 0x00, 0x00, 0x00, 0x00, 0x00⟩, 0xFFFE, 0x0103, [], 12⟩,
     ⟨[0x08, 0x00, 0xC1], ⟨0x00, 0x00, 0x00, 0x00, 0x00, 0x00, 0x00, 0x00⟩, 0xABCD, [],
      ⟨0x00, 0x00, 0x00, 0x00, 0x00, 0x00, 0x00, 0x00⟩, 0xABCD, 0x0103, [(0xC100, 0xCD), (0xC101, 0xAB)], 20⟩,
     ⟨[0xF9], ⟨0x00, 0x00, 0x00, 0x00, 0x00, 0x00, 0xC1, 0x00⟩, 0xFFFE, [],
      ⟨0x00, 0x00, 0x00, 0x00, 0x00, 0x00, 0xC1, 0x00⟩, 0xC100, 0x0101, [], 8⟩,
     ⟨[0xC5], ⟨0x00, 0x00, 0x12, 0x34, 0x00, 0x00, 0x00, 0x00⟩, 0xFFFE, [],
      ⟨0x00, 0x00, 0x12, 0x34, 0x00, 0x00, 0x00, 0x00⟩, 0xFFFC, 0x0101, [(0xFFFC, 0x34), (0xFFFD, 0x12)], 16⟩,
     ⟨[0xF5], ⟨0x12, 0xFF, 0x00, 0x00, 0x00, 0x00, 0x00, 0x00⟩, 0xFFFE, [],
      ⟨0x12, 0xFF, 0x00, 0x00, 0x00, 0x00, 0x00, 0x00⟩, 0xFFFC, 0x0101, [(0xFFFC, 0xFF), (0xFFFD, 0x12)], 16⟩,
     ⟨[0xD1], ⟨0x00, 0x00, 0x00, 0x00, 0x00, 0x00, 0x00, 0x00⟩, 0xFFFC, [(0xFFFC, 0x34), (0xFFFD, 0x12)],
      ⟨0x00, 0x00, 0x00, 0x00, 0x12, 0x34, 0x00, 0x00⟩, 0xFFFE, 0x0101, [], 12⟩,
     ⟨[0xF1], ⟨0x00, 0x00, 0x00, 0x00, 0x00, 0x00, 0x00, 0x00⟩, 0xFFFC, [(0xFFFC, 0xFF), (0xFFFD, 0x12)],
      ⟨0x12, 0xFF, 0x00, 0x00, 0x00, 0x00, 0x00, 0x00⟩, 0xFFFE, 0x0101, [], 12⟩,
     ⟨[0xC5], ⟨0x00, 0x00, 0x12, 0x34, 0x00, 0x00, 0x00, 0x00⟩, 0x0000, [],
      ⟨0x00, 0x00, 0x12, 0x34, 0x00, 0x00, 0x00, 0x00⟩, 0xFFFE, 0x0101, [(0xFFFE, 0x34), (0xFFFF, 0x12)], 16⟩] : List N8Row), p.holds = true := by
  decide +kernel

/-- 95_test_vectors.md T20. -/
theorem test_n8_alu : ∀ p ∈ ([
     ⟨[0x87], ⟨0x80, 0x00, 0x00, 0x00, 0x00, 0x00, 0x00, 0x00⟩, 0xFFFE, [],
      ⟨0x00, 0x90, 0x00, 0x00, 0x00, 0x00, 0x00, 0x00⟩, 0xFFFE, 0x0101, [], 4⟩,
     ⟨[0x88], ⟨0x0E, 0x10, 0x01, 0x00, 0x00, 0x00, 0x00, 0x00⟩, 0xFFFE, [],
      ⟨0x10, 0x20, 0x01, 0x00, 0x00, 0x00, 0x00, 0x00⟩, 0xFFFE, 0x0101, [], 4⟩,
     ⟨[0x8F], ⟨0x80, 0x10, 0x00, 0x00, 0x00, 0x00, 0x00, 0x00⟩, 0xFFFE, [],
      ⟨0x01, 0x10, 0x00, 0x00, 0x00, 0x00, 0x00, 0x00⟩, 0xFFFE, 0x0101, [], 4⟩,
     ⟨[0x90], ⟨0x3E, 0x00, 0x3E, 0x00, 0x00, 0x00, 0x00, 0x00⟩, 0xFFFE, [],
      ⟨0x00, 0xC0, 0x3E, 0x00, 0x00, 0x00, 0x00, 0x00⟩, 0xFFFE, 0x0101, [], 4⟩,
     ⟨[0x90], ⟨0x10, 0x00, 0x01, 0x00, 0x00, 0x00, 0x00, 0x00⟩, 0xFFFE, [],
      ⟨0x0F, 0x60, 0x01, 0x00, 0x00, 0x00, 0x00, 0x00⟩, 0xFFFE, 0x0101, [], 4⟩,
     ⟨[0x90], ⟨0x00, 0x00, 0x01, 0x00, 0x00, 0x00, 0x00, 0x00⟩, 0xFFFE, [],
      ⟨0xFF, 0x70, 0x01, 0x00, 0x00, 0x00, 0x00, 0x00⟩, 0xFFFE, 0x0101, [], 4⟩,
     ⟨[0x98], ⟨0x3B, 0x10, 0x2A, 0x00, 0x00, 0x00, 0x00, 0x00⟩, 0xFFFE, [],
      ⟨0x10, 0x40, 0x2A, 0x00, 0x00, 0x00, 0x00, 0x00⟩, 0xFFFE, 0x0101, [], 4⟩,
     ⟨[0x98], ⟨0x00, 0x10, 0xFF, 0x00, 0x00, 0x00, 0x00, 0x00⟩, 0xFFFE, [],
      ⟨0x00, 0xF0, 0xFF, 0x00, 0x00, 0x00, 0x00, 0x00⟩, 0xFFFE, 0x0101, [], 4⟩,
     ⟨[0xA0], ⟨0x5A, 0x00, 0xA5, 0x00, 0x00, 0x00, 0x00, 0x00⟩, 0xFFFE, [],
      ⟨0x00, 0xA0, 0xA5, 0x00, 0x00, 0x00, 0x00, 0x00⟩, 0xFFFE, 0x0101, [], 4⟩,
     ⟨[0xAF], ⟨0x5A, 0xF0, 0x00, 0x00, 0x00, 0x00, 0x00, 0x00⟩, 0xFFFE, [],
      ⟨0x00, 0x80, 0x00, 0x00, 0x00, 0x00, 0x00, 0x00⟩, 0xFFFE, 0x0101, [], 4⟩,
     ⟨[0xB0], ⟨0x00, 0x70, 0x00, 0x00, 0x00, 0x00, 0x00, 0x00⟩, 0xFFFE, [],
      ⟨0x00, 0x80, 0x00, 0x00, 0x00, 0x00, 0x00, 0x00⟩, 0xFFFE, 0x0101, [], 4⟩,
     ⟨[0xB8], ⟨0x3C, 0x00, 0x2F, 0x00, 0x00, 0x00, 0x00, 0x00⟩, 0xFFFE, [],
      ⟨0x3C, 0x60, 0x2F, 0x00, 0x00, 0x00, 0x00, 0x00⟩, 0xFFFE, 0x0101, [], 4⟩,
     ⟨[0xBE], ⟨0x3C, 0x00, 0x00, 0x00, 0x00, 0x00, 0xC0, 0x00⟩, 0xFFFE, [(0xC000, 0x40)],
      ⟨0x3C, 0x50, 0x00, 0x00, 0x00, 0x00, 0xC0, 0x00⟩, 0xFFFE, 0x0101, [], 8⟩,
     ⟨[0xFE, 0x3C], ⟨0x3C, 0x00, 0x00, 0x00, 0x00, 0x00, 0x00, 0x00⟩, 0xFFFE, [],
      ⟨0x3C, 0xC0, 0x00, 0x00, 0x00, 0x00, 0x00, 0x00⟩, 0xFFFE, 0x0102, [], 8⟩,
     ⟨[0xD6, 0x01], ⟨0x00, 0x00, 0x00, 0x00, 0x00, 0x00, 0x00, 0x00⟩, 0xFFFE, [],
      ⟨0xFF, 0x70, 0x00, 0x00, 0x00, 0x00, 0x00, 0x00⟩, 0xFFFE, 0x0102, [], 8⟩,
     ⟨[0x04], ⟨0x00, 0x10, 0xFF, 0x00, 0x00, 0x00, 0x00, 0x00⟩, 0xFFFE, [],
      ⟨0x00, 0xB0, 0x00, 0x00, 0x00, 0x00, 0x00, 0x00⟩, 0xFFFE, 0x0101, [], 4⟩,
     ⟨[0x04], ⟨0x00, 0x00, 0x0F, 0x00, 0x00, 0x00, 0x00, 0x00⟩, 0xFFFE, [],
      ⟨0x00, 0x20, 0x10, 0x00, 0x00, 0x00, 0x00, 0x00⟩, 0xFFFE, 0x0101, [], 4⟩,
     ⟨[0x05], ⟨0x00, 0x00, 0x01, 0x00, 0x00, 0x00, 0x00, 0x00⟩, 0xFFFE, [],
      ⟨0x00, 0xC0, 0x00, 0x00, 0x00, 0x00, 0x00, 0x00⟩, 0xFFFE, 0x0101, [], 4⟩,
     ⟨[0x05], ⟨0x00, 0x10, 0x00, 0x00, 0x00, 0x00, 0x00, 0x00⟩, 0xFFFE, [],
      ⟨0x00, 0x70, 0xFF, 0x00, 0x00, 0x00, 0x00, 0x00⟩, 0xFFFE, 0x0101, [], 4⟩,
     ⟨[0x34], ⟨0x00, 0x00, 0x00, 0x00, 0x00, 0x00, 0xC0, 0x00⟩, 0xFFFE, [(0xC000, 0x7F)],
      ⟨0x00, 0x20, 0x00, 0x00, 0x00, 0x00, 0xC0, 0x00⟩, 0xFFFE, 0x0101, [(0xC000, 0x80)], 12⟩,
     ⟨[0x35], ⟨0x00, 0x00, 0x00, 0x00, 0x00, 0x00, 0xC0, 0x00⟩, 0xFFFE, [(0xC000, 0x10)],
      ⟨0x00, 0x60, 0x00, 0x00, 0x00, 0x00, 0xC0, 0x00⟩, 0xFFFE, 0x0101, [(0xC000, 0x0F)], 12⟩] : List N8Row), p.holds = true := by
  decide +kernel

/-- 95_test_vectors.md T21. -/
theorem test_n8_arithmetic16 : ∀ p ∈ ([
     ⟨[0x03], ⟨0x00, 0x00, 0xFF, 0xFF, 0x00, 0x00, 0x00, 0x00⟩, 0xFFFE, [],
      ⟨0x00, 0x00, 0x00, 0x00, 0x00, 0x00, 0x00, 0x00⟩, 0xFFFE, 0x0101, [], 8⟩,
     ⟨[0x3B], ⟨0x00, 0x00, 0x00, 0x00, 0x00, 0x00, 0x00, 0x00⟩, 0x0000, [],
      ⟨0x00, 0x00, 0x00, 0x00, 0x00, 0x00, 0x00, 0x00⟩, 0xFFFF, 0x0101, [], 8⟩,
     ⟨[0x09], ⟨0x00, 0x00, 0x06, 0x05, 0x00, 0x00, 0x8A, 0x23⟩, 0xFFFE, [],
      ⟨0x00, 0x20, 0x06, 0x05, 0x00, 0x00, 0x90, 0x28⟩, 0xFFFE, 0x0101, [], 8⟩,
     ⟨[0x29], ⟨0x00, 0x80, 0x00, 0x00, 0x00, 0x00, 0x8A, 0x23⟩, 0xFFFE, [],
      ⟨0x00, 0xB0, 0x00, 0x00, 0x00, 0x00, 0x14, 0x46⟩, 0xFFFE, 0x0101, [], 8⟩,
     ⟨[0x39], ⟨0x00, 0x00, 0x00, 0x00, 0x00, 0x00, 0x00, 0x01⟩, 0xFFFF, [],
      ⟨0x00, 0x30, 0x00, 0x00, 0x00, 0x00, 0x00, 0x00⟩, 0xFFFF, 0x0101, [], 8⟩,
     ⟨[0xE8, 0x01], ⟨0x00, 0x00, 0x00, 0x00, 0x00, 0x00, 0x00, 0x00⟩, 0x00FF, [],
      ⟨0x00, 0x30, 0x00, 0x00, 0x00, 0x00, 0x00, 0x00⟩, 0x0100, 0x0102, [], 16⟩,
     ⟨[0xE8, 0xFF], ⟨0x00, 0x00, 0x00, 0x00, 0x00, 0x00, 0x00, 0x00⟩, 0x000F, [],
      ⟨0x00, 0x30, 0x00, 0x00, 0x00, 0x00, 0x00, 0x00⟩, 0x000E, 0x0102, [], 16⟩,
     ⟨[0xE8, 0xFE], ⟨0x00, 0x00, 0x00, 0x00, 0x00, 0x00, 0x00, 0x00⟩, 0x0000, [],
      ⟨0x00, 0x00, 0x00, 0x00, 0x00, 0x00, 0x00, 0x00⟩, 0xFFFE, 0x0102, [], 16⟩,
     ⟨[0xF8, 0x02], ⟨0x00, 0x00, 0x00, 0x00, 0x00, 0x00, 0x00, 0x00⟩, 0xFFF8, [],
      ⟨0x00, 0x00, 0x00, 0x00, 0x00, 0x00, 0xFF, 0xFA⟩, 0xFFF8, 0x0102, [], 12⟩,
     ⟨[0xF8, 0x80], ⟨0x00, 0x00, 0x00, 0x00, 0x00, 0x00, 0x00, 0x00⟩, 0x0080, [],
      ⟨0x00, 0x10, 0x00, 0x00, 0x00, 0x00, 0x00, 0x00⟩, 0x0080, 0x0102, [], 12⟩] : List N8Row), p.holds = true := by
  decide +kernel

/-- 95_test_vectors.md T22. -/
theorem test_n8_adjust : ∀ p ∈ ([
     ⟨[0x27], ⟨0x9A, 0x00, 0x00, 0x00, 0x00, 0x00, 0x00, 0x00⟩, 0xFFFE, [],
      ⟨0x00, 0x90, 0x00, 0x00, 0x00, 0x00, 0x00, 0x00⟩, 0xFFFE, 0x0101, [], 4⟩,
     ⟨[0x27], ⟨0x3C, 0x00, 0x00, 0x00, 0x00, 0x00, 0x00, 0x00⟩, 0xFFFE, [],
      ⟨0x42, 0x00, 0x00, 0x00, 0x00, 0x00, 0x00, 0x00⟩, 0xFFFE, 0x0101, [], 4⟩,
     ⟨[0x27], ⟨0x00, 0x30, 0x00, 0x00, 0x00, 0x00, 0x00, 0x00⟩, 0xFFFE, [],
      ⟨0x66, 0x10, 0x00, 0x00, 0x00, 0x00, 0x00, 0x00⟩, 0xFFFE, 0x0101, [], 4⟩,
     ⟨[0x27], ⟨0x0F, 0x60, 0x00, 0x00, 0x00, 0x00, 0x00, 0x00⟩, 0xFFFE, [],
      ⟨0x09, 0x40, 0x00, 0x00, 0x00, 0x00, 0x00, 0x00⟩, 0xFFFE, 0x0101, [], 4⟩,
     ⟨[0x27], ⟨0xA0, 0x50, 0x00, 0x00, 0x00, 0x00, 0x00, 0x00⟩, 0xFFFE, [],
      ⟨0x40, 0x50, 0x00, 0x00, 0x00, 0x00, 0x00, 0x00⟩, 0xFFFE, 0x0101, [], 4⟩,
     ⟨[0x2F], ⟨0x35, 0x00, 0x00, 0x00, 0x00, 0x00, 0x00, 0x00⟩, 0xFFFE, [],
      ⟨0xCA, 0x60, 0x00, 0x00, 0x00, 0x00, 0x00, 0x00⟩, 0xFFFE, 0x0101, [], 4⟩,
     ⟨[0x37], ⟨0x00, 0xE0, 0x00, 0x00, 0x00, 0x00, 0x00, 0x00⟩, 0xFFFE, [],
      ⟨0x00, 0x90, 0x00, 0x00, 0x00, 0x00, 0x00, 0x00⟩, 0xFFFE, 0x0101, [], 4⟩,
     ⟨[0x3F], ⟨0x00, 0x10, 0x00, 0x00, 0x00, 0x00, 0x00, 0x00⟩, 0xFFFE, [],
      ⟨0x00, 0x00, 0x00, 0x00, 0x00, 0x00, 0x00, 0x00⟩, 0xFFFE, 0x0101, [], 4⟩,
     ⟨[0x07], ⟨0x85, 0x00, 0x00, 0x00, 0x00, 0x00, 0x00, 0x00⟩, 0xFFFE, [],
      ⟨0x0B, 0x10, 0x00, 0x00, 0x00, 0x00, 0x00, 0x00⟩, 0xFFFE, 0x0101, [], 4⟩,
     ⟨[0x0F], ⟨0x01, 0x00, 0x00, 0x00, 0x00, 0x00, 0x00, 0x00⟩, 0xFFFE, [],
      ⟨0x80, 0x10, 0x00, 0x00, 0x00, 0x00, 0x00, 0x00⟩, 0xFFFE, 0x0101, [], 4⟩,
     ⟨[0x17], ⟨0x80, 0x00, 0x00, 0x00, 0x00, 0x00, 0x00, 0x00⟩, 0xFFFE, [],
      ⟨0x00, 0x10, 0x00, 0x00, 0x00, 0x00, 0x00, 0x00⟩, 0xFFFE, 0x0101, [], 4⟩,
     ⟨[0x1F], ⟨0x01, 0x10, 0x00, 0x00, 0x00, 0x00, 0x00, 0x00⟩, 0xFFFE, [],
      ⟨0x80, 0x10, 0x00, 0x00, 0x00, 0x00, 0x00, 0x00⟩, 0xFFFE, 0x0101, [], 4⟩] : List N8Row), p.holds = true := by
  decide +kernel

/-- 95_test_vectors.md T23. -/
theorem test_n8_cb : ∀ p ∈ ([
     ⟨[0xCB, 0x00], ⟨0x00, 0x00, 0x80, 0x00, 0x00, 0x00, 0x00, 0x00⟩, 0xFFFE, [],
      ⟨0x00, 0x10, 0x01, 0x00, 0x00, 0x00, 0x00, 0x00⟩, 0xFFFE, 0x0102, [], 8⟩,
     ⟨[0xCB, 0x09], ⟨0x00, 0x00, 0x00, 0x01, 0x00, 0x00, 0x00, 0x00⟩, 0xFFFE, [],
      ⟨0x00, 0x10, 0x00, 0x80, 0x00, 0x00, 0x00, 0x00⟩, 0xFFFE, 0x0102, [], 8⟩,
     ⟨[0xCB, 0x12], ⟨0x00, 0x00, 0x00, 0x00, 0x80, 0x00, 0x00, 0x00⟩, 0xFFFE, [],
      ⟨0x00, 0x90, 0x00, 0x00, 0x00, 0x00, 0x00, 0x00⟩, 0xFFFE, 0x0102, [], 8⟩,
     ⟨[0xCB, 0x1B], ⟨0x00, 0x10, 0x00, 0x00, 0x00, 0x01, 0x00, 0x00⟩, 0xFFFE, [],
      ⟨0x00, 0x10, 0x00, 0x00, 0x00, 0x80, 0x00, 0x00⟩, 0xFFFE, 0x0102, [], 8⟩,
     ⟨[0xCB, 0x24], ⟨0x00, 0x00, 0x00, 0x00, 0x00, 0x00, 0xC0, 0x00⟩, 0xFFFE, [],
      ⟨0x00, 0x10, 0x00, 0x00, 0x00, 0x00, 0x80, 0x00⟩, 0xFFFE, 0x0102, [], 8⟩,
     ⟨[0xCB, 0x2D], ⟨0x00, 0x00, 0x00, 0x00, 0x00, 0x00, 0x00, 0x81⟩, 0xFFFE, [],
      ⟨0x00, 0x10, 0x00, 0x00, 0x00, 0x00, 0x00, 0xC0⟩, 0xFFFE, 0x0102, [], 8⟩,
     ⟨[0xCB, 0x37], ⟨0xF1, 0x00, 0x00, 0x00, 0x00, 0x00, 0x00, 0x00⟩, 0xFFFE, [],
      ⟨0x1F, 0x00, 0x00, 0x00, 0x00, 0x00, 0x00, 0x00⟩, 0xFFFE, 0x0102, [], 8⟩,
     ⟨[0xCB, 0x37], ⟨0x00, 0x10, 0x00, 0x00, 0x00, 0x00, 0x00, 0x00⟩, 0xFFFE, [],
      ⟨0x00, 0x80, 0x00, 0x00, 0x00, 0x00, 0x00, 0x00⟩, 0xFFFE, 0x0102, [], 8⟩,
     ⟨[0xCB, 0x3F], ⟨0x01, 0x00, 0x00, 0x00, 0x00, 0x00, 0x00, 0x00⟩, 0xFFFE, [],
      ⟨0x00, 0x90, 0x00, 0x00, 0x00, 0x00, 0x00, 0x00⟩, 0xFFFE, 0x0102, [], 8⟩,
     ⟨[0xCB, 0x06], ⟨0x00, 0x00, 0x00, 0x00, 0x00, 0x00, 0xC0, 0x00⟩, 0xFFFE, [(0xC000, 0x81)],
      ⟨0x00, 0x10, 0x00, 0x00, 0x00, 0x00, 0xC0, 0x00⟩, 0xFFFE, 0x0102, [(0xC000, 0x03)], 16⟩,
     ⟨[0xCB, 0x7C], ⟨0x00, 0x00, 0x00, 0x00, 0x00, 0x00, 0x80, 0x00⟩, 0xFFFE, [],
      ⟨0x00, 0x20, 0x00, 0x00, 0x00, 0x00, 0x80, 0x00⟩, 0xFFFE, 0x0102, [], 8⟩,
     ⟨[0xCB, 0x47], ⟨0xFE, 0x10, 0x00, 0x00, 0x00, 0x00, 0x00, 0x00⟩, 0xFFFE, [],
      ⟨0xFE, 0xB0, 0x00, 0x00, 0x00, 0x00, 0x00, 0x00⟩, 0xFFFE, 0x0102, [], 8⟩,
     ⟨[0xCB, 0x46], ⟨0x00, 0x00, 0x00, 0x00, 0x00, 0x00, 0xC0, 0x00⟩, 0xFFFE, [(0xC000, 0x01)],
      ⟨0x00, 0x20, 0x00, 0x00, 0x00, 0x00, 0xC0, 0x00⟩, 0xFFFE, 0x0102, [], 12⟩,
     ⟨[0xCB, 0x87], ⟨0xFF, 0x00, 0x00, 0x00, 0x00, 0x00, 0x00, 0x00⟩, 0xFFFE, [],
      ⟨0xFE, 0x00, 0x00, 0x00, 0x00, 0x00, 0x00, 0x00⟩, 0xFFFE, 0x0102, [], 8⟩,
     ⟨[0xCB, 0xBE], ⟨0x00, 0x00, 0x00, 0x00, 0x00, 0x00, 0xC0, 0x00⟩, 0xFFFE, [(0xC000, 0xFF)],
      ⟨0x00, 0x00, 0x00, 0x00, 0x00, 0x00, 0xC0, 0x00⟩, 0xFFFE, 0x0102, [(0xC000, 0x7F)], 16⟩,
     ⟨[0xCB, 0xC0], ⟨0x00, 0x00, 0x00, 0x00, 0x00, 0x00, 0x00, 0x00⟩, 0xFFFE, [],
      ⟨0x00, 0x00, 0x01, 0x00, 0x00, 0x00, 0x00, 0x00⟩, 0xFFFE, 0x0102, [], 8⟩,
     ⟨[0xCB, 0xFE], ⟨0x00, 0x00, 0x00, 0x00, 0x00, 0x00, 0xC0, 0x00⟩, 0xFFFE, [(0xC000, 0x00)],
      ⟨0x00, 0x00, 0x00, 0x00, 0x00, 0x00, 0xC0, 0x00⟩, 0xFFFE, 0x0102, [(0xC000, 0x80)], 16⟩] : List N8Row), p.holds = true := by
  decide +kernel

/-- 95_test_vectors.md T24. -/
theorem test_n8_control : ∀ p ∈ ([
     ⟨[0x00], ⟨0x00, 0x00, 0x00, 0x00, 0x00, 0x00, 0x00, 0x00⟩, 0xFFFE, [],
      ⟨0x00, 0x00, 0x00, 0x00, 0x00, 0x00, 0x00, 0x00⟩, 0xFFFE, 0x0101, [], 4⟩,
     ⟨[0xC3, 0x00, 0x02], ⟨0x00, 0x00, 0x00, 0x00, 0x00, 0x00, 0x00, 0x00⟩, 0xFFFE, [],
      ⟨0x00, 0x00, 0x00, 0x00, 0x00, 0x00, 0x00, 0x00⟩, 0xFFFE, 0x0200, [], 16⟩,
     ⟨[0xC2, 0x00, 0x02], ⟨0x00, 0x80, 0x00, 0x00, 0x00, 0x00, 0x00, 0x00⟩, 0xFFFE, [],
      ⟨0x00, 0x80, 0x00, 0x00, 0x00, 0x00, 0x00, 0x00⟩, 0xFFFE, 0x0103, [], 12⟩,
     ⟨[0xCA, 0x00, 0x02], ⟨0x00, 0x80, 0x00, 0x00, 0x00, 0x00, 0x00, 0x00⟩, 0xFFFE, [],
      ⟨0x00, 0x80, 0x00, 0x00, 0x00, 0x00, 0x00, 0x00⟩, 0xFFFE, 0x0200, [], 16⟩,
     ⟨[0xD2, 0x00, 0x02], ⟨0x00, 0x00, 0x00, 0x00, 0x00, 0x00, 0x00, 0x00⟩, 0xFFFE, [],
      ⟨0x00, 0x00, 0x00, 0x00, 0x00, 0x00, 0x00, 0x00⟩, 0xFFFE, 0x0200, [], 16⟩,
     ⟨[0xDA, 0x00, 0x02], ⟨0x00, 0x00, 0x00, 0x00, 0x00, 0x00, 0x00, 0x00⟩, 0xFFFE, [],
      ⟨0x00, 0x00, 0x00, 0x00, 0x00, 0x00, 0x00, 0x00⟩, 0xFFFE, 0x0103, [], 12⟩,
     ⟨[0xE9], ⟨0x00, 0x00, 0x00, 0x00, 0x00, 0x00, 0x40, 0x00⟩, 0xFFFE, [],
      ⟨0x00, 0x00, 0x00, 0x00, 0x00, 0x00, 0x40, 0x00⟩, 0xFFFE, 0x4000, [], 4⟩,
     ⟨[0x18, 0xFE], ⟨0x00, 0x00, 0x00, 0x00, 0x00, 0x00, 0x00, 0x00⟩, 0xFFFE, [],
      ⟨0x00, 0x00, 0x00, 0x00, 0x00, 0x00, 0x00, 0x00⟩, 0xFFFE, 0x0100, [], 12⟩,
     ⟨[0x18, 0x7F], ⟨0x00, 0x00, 0x00, 0x00, 0x00, 0x00, 0x00, 0x00⟩, 0xFFFE, [],
      ⟨0x00, 0x00, 0x00, 0x00, 0x00, 0x00, 0x00, 0x00⟩, 0xFFFE, 0x0181, [], 12⟩,
     ⟨[0x18, 0x80], ⟨0x00, 0x00, 0x00, 0x00, 0x00, 0x00, 0x00, 0x00⟩, 0xFFFE, [],
      ⟨0x00, 0x00, 0x00, 0x00, 0x00, 0x00, 0x00, 0x00⟩, 0xFFFE, 0x0082, [], 12⟩,
     ⟨[0x20, 0x05], ⟨0x00, 0x80, 0x00, 0x00, 0x00, 0x00, 0x00, 0x00⟩, 0xFFFE, [],
      ⟨0x00, 0x80, 0x00, 0x00, 0x00, 0x00, 0x00, 0x00⟩, 0xFFFE, 0x0102, [], 8⟩,
     ⟨[0x28, 0x05], ⟨0x00, 0x80, 0x00, 0x00, 0x00, 0x00, 0x00, 0x00⟩, 0xFFFE, [],
      ⟨0x00, 0x80, 0x00, 0x00, 0x00, 0x00, 0x00, 0x00⟩, 0xFFFE, 0x0107, [], 12⟩,
     ⟨[0x30, 0x05], ⟨0x00, 0x10, 0x00, 0x00, 0x00, 0x00, 0x00, 0x00⟩, 0xFFFE, [],
      ⟨0x00, 0x10, 0x00, 0x00, 0x00, 0x00, 0x00, 0x00⟩, 0xFFFE, 0x0102, [], 8⟩,
     ⟨[0x38, 0x05], ⟨0x00, 0x10, 0x00, 0x00, 0x00, 0x00, 0x00, 0x00⟩, 0xFFFE, [],
      ⟨0x00, 0x10, 0x00, 0x00, 0x00, 0x00, 0x00, 0x00⟩, 0xFFFE, 0x0107, [], 12⟩,
     ⟨[0xCD, 0x00, 0x02], ⟨0x00, 0x00, 0x00, 0x00, 0x00, 0x00, 0x00, 0x00⟩, 0xDFFE, [],
      ⟨0x00, 0x00, 0x00, 0x00, 0x00, 0x00, 0x00, 0x00⟩, 0xDFFC, 0x0200, [(0xDFFC, 0x03), (0xDFFD, 0x01)], 24⟩,
     ⟨[0xC4, 0x00, 0x02], ⟨0x00, 0x80, 0x00, 0x00, 0x00, 0x00, 0x00, 0x00⟩, 0xDFFE, [],
      ⟨0x00, 0x80, 0x00, 0x00, 0x00, 0x00, 0x00, 0x00⟩, 0xDFFE, 0x0103, [], 12⟩,
     ⟨[0xDC, 0x00, 0x02], ⟨0x00, 0x10, 0x00, 0x00, 0x00, 0x00, 0x00, 0x00⟩, 0xDFFE, [],
      ⟨0x00, 0x10, 0x00, 0x00, 0x00, 0x00, 0x00, 0x00⟩, 0xDFFC, 0x0200, [(0xDFFC, 0x03), (0xDFFD, 0x01)], 24⟩,
     ⟨[0xC9], ⟨0x00, 0x00, 0x00, 0x00, 0x00, 0x00, 0x00, 0x00⟩, 0xDFFC, [(0xDFFC, 0x03), (0xDFFD, 0x01)],
      ⟨0x00, 0x00, 0x00, 0x00, 0x00, 0x00, 0x00, 0x00⟩, 0xDFFE, 0x0103, [], 16⟩,
     ⟨[0xC0], ⟨0x00, 0x80, 0x00, 0x00, 0x00, 0x00, 0x00, 0x00⟩, 0xDFFC, [(0xDFFC, 0x03), (0xDFFD, 0x01)],
      ⟨0x00, 0x80, 0x00, 0x00, 0x00, 0x00, 0x00, 0x00⟩, 0xDFFC, 0x0101, [], 8⟩,
     ⟨[0xC8], ⟨0x00, 0x80, 0x00, 0x00, 0x00, 0x00, 0x00, 0x00⟩, 0xDFFC, [(0xDFFC, 0x03), (0xDFFD, 0x01)],
      ⟨0x00, 0x80, 0x00, 0x00, 0x00, 0x00, 0x00, 0x00⟩, 0xDFFE, 0x0103, [], 20⟩,
     ⟨[0xD0], ⟨0x00, 0x00, 0x00, 0x00, 0x00, 0x00, 0x00, 0x00⟩, 0xDFFC, [(0xDFFC, 0x03), (0xDFFD, 0x01)],
      ⟨0x00, 0x00, 0x00, 0x00, 0x00, 0x00, 0x00, 0x00⟩, 0xDFFE, 0x0103, [], 20⟩,
     ⟨[0xD8], ⟨0x00, 0x00, 0x00, 0x00, 0x00, 0x00, 0x00, 0x00⟩, 0xDFFC, [(0xDFFC, 0x03), (0xDFFD, 0x01)],
      ⟨0x00, 0x00, 0x00, 0x00, 0x00, 0x00, 0x00, 0x00⟩, 0xDFFC, 0x0101, [], 8⟩,
     ⟨[0xC7], ⟨0x00, 0x00, 0x00, 0x00, 0x00, 0x00, 0x00, 0x00⟩, 0xDFFE, [],
      ⟨0x00, 0x00, 0x00, 0x00, 0x00, 0x00, 0x00, 0x00⟩, 0xDFFC, 0x0000, [(0xDFFC, 0x01), (0xDFFD, 0x01)], 16⟩,
     ⟨[0xEF], ⟨0x00, 0x00, 0x00, 0x00, 0x00, 0x00, 0x00, 0x00⟩, 0xDFFE, [],
      ⟨0x00, 0x00, 0x00, 0x00, 0x00, 0x00, 0x00, 0x00⟩, 0xDFFC, 0x0028, [(0xDFFC, 0x01), (0xDFFD, 0x01)], 16⟩,
     ⟨[0xFF], ⟨0x00, 0x00, 0x00, 0x00, 0x00, 0x00, 0x00, 0x00⟩, 0xDFFE, [],
      ⟨0x00, 0x00, 0x00, 0x00, 0x00, 0x00, 0x00, 0x00⟩, 0xDFFC, 0x0038, [(0xDFFC, 0x01), (0xDFFD, 0x01)], 16⟩,
     ⟨[0xC9], ⟨0x00, 0x00, 0x00, 0x00, 0x00, 0x00, 0x00, 0x00⟩, 0xFFFE, [(0xFFFE, 0x34), (0xFFFF, 0x00)],
      ⟨0x00, 0x00, 0x00, 0x00, 0x00, 0x00, 0x00, 0x00⟩, 0x0000, 0x0034, [], 16⟩] : List N8Row), p.holds = true := by
  decide +kernel

/-- T12 to T18: the words a step refuses, in STRICT mode. -/
theorem test_a32_refused : ∀ p ∈ ([
     (0xE0900F11, [(1, 1)], .pcOperand), (0xE1B0F001, [(1, 0x100)], .sWithPc), (0xE1A11002, [], .sbzSbo),
     (0xE12FFE11, [], .sbzSbo), (0xE0010291, [(1, 2), (2, 3)], .registerOverlap),
     (0xE0813291, [(1, 0xFFFFFFFF), (2, 2)], .registerOverlap), (0xE14F0000, [], .savedStatus),
     (0xE5B11004, [(1, 0x03000000)], .writebackBase), (0xE5D1F000, [(1, 0x03000000)], .pcOperand),
     (0xE1D1F0B0, [(1, 0x03000000)], .pcOperand), (0xE02100B0, [(1, 0x03000000)], .halfwordPw),
     (0xE8A10003, [(0, 9), (1, 0x03000000)], .writebackBase), (0xE8B00003, [(0, 0x03000000)], .writebackBase),
     (0xE8900000, [(0, 0x03000000)], .emptyList), (0xE8D00002, [(0, 0x03000000)], .savedStatus),
     (0xE1020092, [(2, 0x03000000)], .registerOverlap), (0xE1010192, [(1, 0x03000000)], .sbzSbo),
     (0xEE000000, [], .unrecognizedClass), (0xEF000000, [], .unrecognizedClass), (0xE6000010, [], .unrecognizedClass),
     (0xE1000050, [], .unrecognizedClass)] : List (Word × List (Reg × Word) × DecodeReason)),
    refuses p.1 p.2.1 p.2.2 = true := by
  decide +kernel

/-- T15 to T18, T24: the other faults of a step, with the latch each leaves. -/
theorem test_other_faults :
    faultOf (step (startA32 0xE321F01F [] 0xD3 [])) =
      some (.invalidMode ⟨.a32, 0x08000000, 0xE321F01F, 0⟩ (.mode 0x1F)) ∧
    faultOf (step (startA32 0xE1A00000 [] 0xF3 [])) = some (.invalidMode ⟨.a32, 0x08000000, 0, 0⟩ .thumb) ∧
    faultOf (step (startA32 0xE5810000 [(0, 5), (1, 0x04000400)] 0xD3 [])) =
      some (.bus ⟨.a32, 0x08000000, 0xE5810000, 0⟩ 0x04000400 .word .write) ∧
    faultOf (step (startA32 0xE92D4010 [(4, 1)] 0xD3 [])) =
      some (.bus ⟨.a32, 0x08000000, 0xE92D4010, 0⟩ 0xFFFFFFF8 .word .write) ∧
    faultOf (step (startA32 0xE8900003 [(0, 0x03007FFC)] 0xD3
      [(0x03007FFC, 0x78), (0x03007FFD, 0x56), (0x03007FFE, 0x34), (0x03007FFF, 0x12)])) =
      some (.bus ⟨.a32, 0x08000000, 0x12345678, 0⟩ 0x03008000 .word .read) ∧
    faultOf (step (startN8 [0xC5] ⟨0, 0, 0x12, 0x34, 0, 0, 0, 0⟩ 0xE001 [])) =
      some (.bus ⟨.n8, 0x0100, 0xC5, 0⟩ 0xE000 .byte .write) ∧
    faultOf (step (startN8 [0x7E] ⟨0, 0, 0, 0, 0, 0, 0xE0, 0⟩ 0xFFFE [])) =
      some (.bus ⟨.n8, 0x0100, 0x7E, 0⟩ 0xE000 .byte .read) ∧
    faultOf (step (startN8 [0xCD, 0x00, 0x02] ⟨0, 0, 0, 0, 0, 0, 0, 0⟩ 0xE002 [])) =
      some (.bus ⟨.n8, 0x0100, 0x02, 0⟩ 0xE001 .byte .write) := by
  decide +kernel

/-- T25: the fifteen missing entries; a fetch from unmapped memory; an operand byte from another region. -/
theorem test_n8_fetch :
    (∀ op ∈ ([0x10, 0xD9, 0xF3, 0xFB, 0xD3, 0xDB, 0xDD, 0xE3, 0xE4, 0xEB, 0xEC, 0xED, 0xF4, 0xFC, 0xFD] : List Byte),
      faultOf (step (startN8 [op] ⟨0, 0, 0, 0, 0, 0, 0, 0⟩ 0 [])) =
        some (.unimplemented ⟨.n8, 0x0100, op.setWidth 32, 0⟩ op 0x0100)) ∧
    faultOf (step { State.reset with cfg := Config.n8, pc := 0xE000 }) =
      some (.bus ⟨.n8, 0xE000, 0, 0⟩ 0xE000 .byte .read) ∧
    faultOf (step { State.reset with cfg := Config.n8, pc := 0xDFFF, mem := [(0xDFFF, 0x3E)] }) =
      some (.bus ⟨.n8, 0xE000, 0x3E, 0⟩ 0xE000 .byte .read) ∧
    (nextOf (step { State.reset with cfg := Config.n8, pc := 0x7FFE, mem := [(0x7FFE, 0xC3)] })).map (·.pc) =
      some 0x0000 := by
  decide +kernel

/-- T15, T16, T19, T24: a write of a read-only region is discarded, MSR never writes T, HALT stops. -/
theorem test_no_effect :
    (nextOf (step (startA32 0xE5810000 [(0, 5), (1, 0x08000000)] 0xD3 []))).map (fun t => (t.mem, t.lastCycles)) =
      some (storeFrom [] 0x08000000 [0x00, 0x00, 0x81, 0xE5], some 2) ∧
    (nextOf (step (startN8 [0x36, 0x77] ⟨0, 0, 0, 0, 0, 0, 0x01, 0x50⟩ 0 []))).map (fun t => (t.mem, t.pc)) =
      some ([(0x0100, 0x36), (0x0101, 0x77)], 0x0102) ∧
    (nextOf (step (startA32 0xE321F0F3 [] 0xD3 []))).map (fun t => (t.sw, t.lastCycles)) = some (0xD3, some 1) ∧
    (nextOf (step (startA32 0xE320F000 [] 0xD3 []))).map (fun t => (t.sw, t.lastCycles)) = some (0xD3, some 1) ∧
    (nextOf (step (startN8 [0x76] ⟨0, 0, 0, 0, 0, 0, 0, 0⟩ 0 []))).map (fun t => (t.running, t.pc, t.lastCycles)) =
      some (false, 0x0101, some 4) := by
  decide +kernel

/-- T14: MULS, whose C is a draw: the result, the draw made and the cycles do not depend on it. -/
theorem test_a32_muls :
    (nextOf (step (startA32 0xE0100291 [(1, 0x80000000), (2, 1)] 0xD3 []))).map
      (fun t => (t.getX 0, t.draws, t.lastCycles)) = some (0x80000000, 1, some 2) ∧
    (nextOf (step (startA32 0xE0100291 [(1, 0x10000), (2, 0x10000)] 0xD3 []))).map
      (fun t => (t.getX 0, t.draws, t.lastCycles)) = some (0, 1, some 4) := by
  decide +kernel

/-- A read of an I/O block takes fresh draws, one a byte, which the latch holds, and a write to it is seen byte by byte (R129, R130). -/
theorem test_io :
    (nextOf (step (startA32 0xE5910000 [(1, 0x04000000)] 0xD3 []))).map (fun t => (t.openBus, t.draws)) =
      some (littleEndian [Config.ioRead 0 0, Config.ioRead 1 1, Config.ioRead 2 2, Config.ioRead 3 3], 4) ∧
    (nextOf (step (startA32 0xE5810000 [(0, 0x11223344), (1, 0x04000000)] 0xD3 []))).map (fun t => t.events) =
      some [.advance 2, .ioWrite 3 0x11 false, .ioWrite 2 0x22 false, .ioWrite 1 0x33 false, .ioWrite 0 0x44 false] :=
  ⟨rfl, by decide +kernel⟩

/-- T2, T3: a flag subset keeps every other bit; a pair is its two halves. -/
theorem test_flags_and_pairs :
    setFlagsA32 0x0F0000D3 { n := some true, z := some true, c := some true, v := some true } = 0xFF0000D3 ∧
    setFlagsA32 0xF00000D3 { z := some false, c := some false } = 0x900000D3 ∧
    setFlagsN8 0x5F { z := some true } = 0xDF ∧ setFlagsN8 0xF0 { h := some false } = 0xD0 ∧
    (State.reset.setPair .af 0x12FF).n8 = ⟨0x12, 0xFF, 0, 0, 0, 0, 0, 0⟩ ∧
    (State.reset.setPair .bc 0x1234).getPair .bc = 0x1234 := by
  decide +kernel

/-- T4: accesses that cross the end of a region, or lie outside every one, are not routed; the last bytes inside are. -/
theorem test_routing :
    route Config.a32 0x03007FFE 4 = none ∧ (route Config.a32 0x03007FFC 4).isSome ∧ route Config.a32 0x01000000 1 = none ∧
    route Config.a32 0xFFFFFFFC 4 = none ∧ (route Config.a32 0x02000001 2).isSome ∧ route Config.n8 0xDFFF 2 = none ∧
    route Config.n8 0xE000 1 = none ∧ (route Config.n8 0xFFFF 1).isSome := by
  decide +kernel

/-! ## Well-formedness: for each check, operands it refuses and a neighbour it admits -/

theorem test_illformed_data_processing :
    wellFormed (.addImm .al true 1 15 ⟨0, 1⟩) = false ∧ wellFormed (.addImm .al false 1 15 ⟨0, 1⟩) = true ∧
    wellFormed (.movShift .al true 15 ⟨.lsl, 0, 1⟩) = false ∧ wellFormed (.movShift .al true 14 ⟨.lsl, 0, 1⟩) = true ∧
    wellFormed (.subShiftReg .al false 1 0 ⟨.lsl, 15, 2⟩) = false ∧
    wellFormed (.subShiftReg .al false 1 0 ⟨.lsl, 3, 15⟩) = false ∧
    wellFormed (.subShiftReg .al false 15 0 ⟨.lsl, 3, 2⟩) = false ∧
    wellFormed (.subShiftReg .al false 1 15 ⟨.lsl, 3, 2⟩) = false ∧
    wellFormed (.subShiftReg .al true 1 0 ⟨.lsl, 3, 2⟩) = true ∧
    wellFormed (.cmpShiftReg .al 15 ⟨.lsl, 3, 2⟩) = false ∧ wellFormed (.cmpShiftReg .al 1 ⟨.lsl, 3, 2⟩) = true := by
  decide +kernel

theorem test_illformed_multiply_status_swap :
    wellFormed (.mul .al false 15 1 2) = false ∧ wellFormed (.mul .al false 2 1 2) = false ∧
    wellFormed (.mul .al false 1 1 2) = true ∧ wellFormed (.mla .al false 0 15 1 2) = false ∧
    wellFormed (.umull .al false 0 1 2 15) = false ∧ wellFormed (.umull .al false 0 0 2 3) = false ∧
    wellFormed (.smlal .al false 0 1 2 0) = false ∧ wellFormed (.smlal .al false 0 1 2 1) = false ∧
    wellFormed (.smlal .al false 0 1 0 2) = true ∧
    wellFormed (.mrs .al 15) = false ∧ wellFormed (.mrs .al 14) = true ∧
    wellFormed (.msrReg .al 8 15) = false ∧ wellFormed (.msrReg .al 0 14) = true ∧
    wellFormed (.swp .al 15 0 1) = false ∧ wellFormed (.swp .al 1 0 1) = false ∧ wellFormed (.swpb .al 1 1 2) = false ∧
    wellFormed (.swp .al 0 1 1) = true := by
  decide +kernel

theorem test_illformed_transfers :
    wellFormed (.ldrbImmPre .al true false 1 15 0) = false ∧ wellFormed (.ldrImmPre .al true false 1 15 0) = true ∧
    wellFormed (.strRegPre .al true false 1 0 ⟨.lsl, 0, 15⟩) = false ∧
    wellFormed (.strRegPre .al true false 15 0 ⟨.lsl, 0, 1⟩) = true ∧
    wellFormed (.ldrImmPost .al true 15 0 4) = false ∧ wellFormed (.ldrImmPost .al true 0 0 4) = false ∧
    wellFormed (.ldrImmPre .al true true 0 0 4) = false ∧ wellFormed (.ldrImmPre .al true false 0 0 4) = true ∧
    wellFormed (.ldrhImm .al false true true 1 0 2) = false ∧ wellFormed (.ldrhImm .al false true false 1 0 2) = true ∧
    wellFormed (.strhImm .al true true false 1 15 2) = false ∧ wellFormed (.ldrsbReg .al true true false 1 0 15) = false ∧
    wellFormed (.ldrshImm .al true true true 0 0 2) = false ∧ wellFormed (.ldrshImm .al false true false 15 0 2) = false ∧
    wellFormed (.ldrshImm .al true true false 15 0 2) = true := by
  decide +kernel

theorem test_illformed_block :
    wellFormed (.ldmia .al false 0 0) = false ∧ wellFormed (.stmdb .al false 15 1) = false ∧
    wellFormed (.ldmib .al true 1 0x0002) = false ∧ wellFormed (.ldmib .al false 1 0x0002) = true ∧
    wellFormed (.stmia .al true 1 0x0003) = false ∧ wellFormed (.stmia .al true 0 0x0003) = true ∧
    wellFormed (.stmda .al false 1 0x0003) = true := by
  decide +kernel

/-! ## States and operands that meet the hypotheses of the statements

`test_meets_<Name>` goes with `Obligations.<Name>`, clause by clause in its order. -/

/-- An A32 core with the bases of IWRAM, of the end of IWRAM, of an I/O block and of ROM in R1, R2, R3 and R5. -/
def coreA32 : State :=
  startA32 0xE0800001 [(1, 0x03000000), (2, 0x03007FFC), (3, 0x04000000), (4, 0x04000400), (5, 0x08000000), (6, 0x03008000)] 0xD3 []

/-- An N8 core with HL, BC and DE in work RAM. -/
def coreN8 : State := startN8 [0x3E, 0x55] ⟨1, 0, 0xC0, 0x01, 0xC0, 0x02, 0xC0, 0x00⟩ 0xDFFE []

/-- The region IWRAM, and the regions of work RAM and ROM of N8. -/
def iwram : Region := ⟨.buffer false, 0x8000, 0x03000000⟩
def workRam : Region := ⟨.buffer false, 0x2000, 0xC000⟩
def romN8 : Region := ⟨.buffer true, 0x8000, 0⟩

/-- The I/O block of A32. -/
def ioRegs : Region := ⟨.io 0, 0x400, 0x04000000⟩

theorem test_meets_encoding :
    (Instr.bl .al 1).profile = .a32 ∧ decodeWord 0xEB000001 = .ok (.bl .al 1) ∧ (Instr.ld_b_d8 7).profile = .n8 ∧
    decodeN8 [0x06, 7, 9] = .ok (.ld_b_d8 7, [9]) := by
  decide +kernel

/-- One word of each kind that is unrecognized, and one that is not. -/
theorem test_meets_UnrecognizedWords :
    ([0xEF000000, 0xEE000000, 0xE6000010, 0xE3000000, 0xE3400000, 0xE0400090, 0xE1800090, 0xE1300090, 0xE00000D0,
      0xE00000F0, 0xE1000050, 0xE1600010, 0xE12000D0] : List Word).all (fun w => (decodeA32 w).isNone) = true ∧
    ([0xE0000090, 0xE0800090, 0xE1000090, 0xE1400090, 0xE01000D0, 0xE00000B0, 0xE1000000, 0xE1200010, 0xE3200000] :
      List Word).all (fun w => (decodeA32 w).isSome) = true := by
  decide +kernel

theorem test_meets_StepBeforeFetch :
    ({ coreA32 with running := false } : State).running = false ∧
    flagT ({ coreA32 with sw := 0xF3 } : State).sw = true ∧ ({ coreA32 with sw := 0xF3 } : State).running = true := by
  decide +kernel

theorem test_meets_StepRunsA32 :
    coreA32.running = true ∧ coreA32.cfg.profile = .a32 ∧ flagT coreA32.sw = false ∧
    ∃ r o, route coreA32.cfg (coreA32.getX 15).toNat 4 = some (r, o) ∧
      conditionPassed (condOf (coreA32.readValue r o .word)) coreA32.sw = true ∧
      decodeWord (coreA32.readValue r o .word) = .ok (.addShift .al false 0 0 ⟨.lsl, 0, 1⟩) :=
  ⟨rfl, rfl, rfl, ⟨.buffer true, 0x2000000, 0x08000000⟩, 0, rfl, rfl, rfl⟩

/-- A word whose condition fails at R15. -/
theorem test_meets_StepRunsA32_failed :
    ∃ r o, route coreA32.cfg ((startA32 0x0E000000 [] 0xD3 []).getX 15).toNat 4 = some (r, o) ∧
      conditionPassed (condOf ((startA32 0x0E000000 [] 0xD3 []).readValue r o .word)) 0xD3 = false :=
  ⟨⟨.buffer true, 0x2000000, 0x08000000⟩, 0, rfl, rfl⟩

/-- An unrecognized class in either mode, and a violated fixed field. -/
theorem test_meets_StepRefusesWord :
    decodeWord 0xEF000000 = .error (.malformed .unrecognizedClass) ∧ decodeWord 0xE1A11002 = .error (.malformed .sbzSbo) ∧
    conditionPassed (condOf 0xEF000000) 0xD3 = true ∧ conditionPassed (condOf 0xE1A11002) 0xD3 = true ∧
    (startA32 0xEF000000 [] 0xD3 []).cfg.decodeMode = .strict ∧
    (nextOf (step { startA32 0xEF000000 [] 0xD3 [] with cfg := { Config.a32 with decodeMode := .permissive } })).map
      (fun t => (t.getX 15, t.events)) = some (0x08000004, [.advance 1, .unrecognizedNoOp 0x08000000 0xEF000000]) := by
  decide +kernel

theorem test_meets_StepRunsN8 :
    coreN8.running = true ∧ coreN8.cfg.profile = .n8 ∧
    ∃ u, readStream coreN8 coreN8.pc 2 = .ok ([0x3E, 0x55], u) ∧ decodeN8 [0x3E, 0x55] = .ok (.ld_a_d8 0x55, []) :=
  ⟨rfl, rfl, _, rfl, rfl⟩

theorem test_meets_StepUnimplemented :
    Routes8 { coreN8 with mem := [(0x0100, 0xD3)] } 0x0100 romN8 0x0100 ∧
    n8Length (byteRead { coreN8 with mem := [(0x0100, 0xD3)] } romN8 0x0100) = none :=
  ⟨rfl, rfl⟩

/-- A fetch at the first address past BIOS, at an unmapped byte, and past the last byte of work RAM. -/
theorem test_meets_FetchFaults :
    route Config.a32 ((coreA32.setX 15 0x4000).getX 15).toNat 4 = none ∧ route Config.n8 0xE000 1 = none ∧
    (∃ f, Routes8 { coreN8 with pc := 0xDFFF, mem := [(0xDFFF, 0x3E)] } 0xDFFF workRam 0x1FFF ∧
      n8Length (byteRead { coreN8 with pc := 0xDFFF, mem := [(0xDFFF, 0x3E)] } workRam 0x1FFF) = some 2 ∧
      readStream { coreN8 with pc := 0xDFFF, mem := [(0xDFFF, 0x3E)] } 0xDFFF 2 = .error f) :=
  ⟨by decide +kernel, by decide +kernel, _, rfl, rfl, rfl⟩

/-- Operands R186 refuses, with the condition failing and passing. -/
theorem test_meets_ConditionAndRefusal :
    conditionPassed (condOf (Instr.mul .eq false 1 2 1).word) coreA32.sw = false ∧
    conditionPassed (condOf (Instr.mul .al false 1 2 1).word) coreA32.sw = true ∧
    (Instr.mul .al false 1 2 1).encodingError = some .registerOverlap := by
  decide +kernel

/-- A register shift whose operands are not R15, for the last operand clause; the other two have no hypotheses. -/
theorem test_meets_Shifts :
    (2#4 : Reg) ≠ 15 ∧ (3#4 : Reg) ≠ 15 ∧
    shiftRegOperand ⟨.lsr, 3, 2⟩ ((coreA32.setX 2 0x80000000).setX 3 0x11F) = ⟨1, false⟩ ∧
    shiftImmOperand ⟨.lsl, 0, 15⟩ coreA32 = ⟨0x08000008, false⟩ ∧ rotImmOperand ⟨2, 0x0F⟩ coreA32 = ⟨0xF0000000, true⟩ ∧
    rotImmOperand ⟨0, 0x0F⟩ { coreA32 with sw := 0x200000D3 } = ⟨0xF, true⟩ := by
  decide +kernel

/-- A data-processing operation of each form, a compare among them, and one that writes R15. -/
theorem test_meets_DataProcessing :
    conditionPassed .al coreA32.sw = true ∧
    (∀ i ∈ [dpImm .al true 1 0 ⟨15, 0xFF⟩ .sub, dpImm .al false 15 15 ⟨0, 4⟩ .add, dpShift .al true 1 15 ⟨.ror, 0, 2⟩ .cmp,
      dpShiftReg .al true 1 0 ⟨.lsr, 3, 2⟩ .mvn], wellFormed i = true) := by
  decide +kernel

theorem test_meets_Branches : conditionPassed .al coreA32.sw = true ∧ conditionPassed .ne coreA32.sw = true := by
  decide +kernel

/-- BX to an odd address, to an even one, and to R15. -/
theorem test_meets_BranchExchange :
    conditionPassed .al coreA32.sw = true ∧ (coreA32.readReg 1).getLsbD 0 = false ∧
    ((coreA32.setX 1 0x03000101).readReg 1).getLsbD 0 = true ∧ (coreA32.readReg 15).getLsbD 0 = false := by
  decide +kernel

theorem test_meets_Multiplies :
    ∀ i ∈ [Instr.mul .al true 0 1 2, .mla .al false 0 3 1 2, .umull .al true 0 1 2 3, .umlal .al false 0 1 2 3,
      .smull .al true 0 1 2 3, .smlal .al false 0 1 2 3], wellFormed i = true := by
  decide +kernel

/-- MSR that keeps the mode, that does not select it, and that would change it. -/
theorem test_meets_StatusTransfers :
    wellFormed (.msrImm .al 1 ⟨0, 0x13⟩) = true ∧
    (rotImmValue ⟨0, 0x13⟩).extractLsb' 0 5 = coreA32.sw.extractLsb' 0 5 ∧ (8#4).getLsbD 0 = false ∧
    (rotImmValue ⟨0, 0x1F⟩).extractLsb' 0 5 ≠ coreA32.sw.extractLsb' 0 5 ∧ wellFormed (.msrReg .al 9 1) = true := by
  decide +kernel

/-- Every single load, with its access in IWRAM, at its last word, and in an I/O block. -/
theorem test_meets_Loads : ∀ rn ∈ ([1, 2, 3] : List Reg),
    ∀ f ∈ ldrForms .al true false rn 0 0 ⟨.lsl, 0, 7⟩ ++ ldrbForms .al true true rn 0 0 ⟨.lsl, 0, 7⟩
        ++ ldrhForms .al true true true rn 0 0 7 ++ ldrhForms .al false true false rn 0 0 7,
      conditionPassed f.cond coreA32.sw = true ∧ wellFormed f.instr = true ∧
      (route coreA32.cfg (f.place coreA32).1.toNat (f.place coreA32).2.bytes).isSome = true := by
  decide +kernel

/-- Every single store, with its access in IWRAM, at its last word, in an I/O block and in ROM. -/
theorem test_meets_Stores : ∀ rn ∈ ([1, 2, 3, 5] : List Reg),
    ∀ f ∈ strForms .al true false rn 0 0 ⟨.lsl, 0, 7⟩ ++ strbForms .al true true rn 0 0 ⟨.lsl, 0, 7⟩
        ++ strhForms .al true true true rn 0 0 7 ++ strhForms .al false true false rn 0 0 7,
      conditionPassed f.cond coreA32.sw = true ∧ wellFormed f.instr = true ∧
      (route coreA32.cfg (f.place coreA32).1.toNat (f.place coreA32).2.bytes).isSome = true ∧
      (nextOf (exec f.instr coreA32)).isSome = true := by
  decide +kernel

/-- Every transfer, just past the I/O block and just past IWRAM. -/
theorem test_meets_TransferFaults : ∀ rn ∈ ([4, 6] : List Reg),
    (∀ f ∈ ldrForms .al true false rn 0 0 ⟨.lsl, 0, 7⟩ ++ ldrbForms .al true true rn 0 0 ⟨.lsl, 0, 7⟩
        ++ ldrhForms .al true true true rn 0 0 7,
      wellFormed f.instr = true ∧ (route coreA32.cfg (f.place coreA32).1.toNat (f.place coreA32).2.bytes).isNone = true) ∧
    (∀ f ∈ strForms .al true false rn 0 0 ⟨.lsl, 0, 7⟩ ++ strbForms .al true true rn 0 0 ⟨.lsl, 0, 7⟩
        ++ strhForms .al true true true rn 0 0 7,
      wellFormed f.instr = true ∧ (route coreA32.cfg (f.place coreA32).1.toNat (f.place coreA32).2.bytes).isNone = true) := by
  decide +kernel

/-- Block transfers whose first address is not routed (R4, R6), and whose first words are and the next is not (R2, the last
word of IWRAM, and R3 + 0x3FC, the last of the I/O block); what LDM leaves of the I/O reads is four draws. -/
theorem test_meets_TransferFaults_block :
    (∀ rn ∈ ([4, 6] : List Reg), (route coreA32.cfg (blockAddr (blockStart .ia (coreA32.getX rn) 3) 0).toNat 4).isNone) ∧
    (BlockRouted coreA32 (blockStart .ia (coreA32.getX 2) 3) 1 ∧
      (route coreA32.cfg (blockAddr (blockStart .ia (coreA32.getX 2) 3) 1).toNat 4).isNone ∧
      1 < (registersOf 3).length ∧ wellFormed (ldmOf .ia .al true 2 3) = true ∧ wellFormed (stmOf .ia .al true 2 3) = true) ∧
    (BlockRouted coreA32 0x040003F8 2 ∧ (route coreA32.cfg (blockAddr 0x040003F8 2).toNat 4).isNone ∧
      blockStart .ib 0x040003F4 7 = 0x040003F8 ∧ (blockSite coreA32 0x040003F8 2).draws = 8) := by
  unfold BlockRouted
  decide +kernel

/-- SWP and SWPB just past IWRAM. -/
theorem test_meets_TransferFaults_swap :
    ∀ p ∈ [(Instr.swp .al 6 0 3, LoadKind.word), (Instr.swpb .al 6 0 3, LoadKind.byte)],
      wellFormed p.1 = true ∧
      (route coreA32.cfg (p.2.access (coreA32.getX 6)).1.toNat (p.2.access (coreA32.getX 6)).2.bytes).isNone = true := by
  decide +kernel

/-- Three registers from the base of IWRAM in every mode, with write-back; a single one at its last word; a list with R15. -/
theorem test_meets_LoadMultiple :
    (∀ m ∈ [BlockMode.ia, .ib], BlockRouted coreA32 (blockStart m (coreA32.getX 1) 0x8009) (registersOf 0x8009).length) ∧
    (∀ m ∈ [BlockMode.da, .db], BlockRouted coreA32 (blockStart m (coreA32.getX 2) 0x8009) (registersOf 0x8009).length) ∧
    BlockRouted coreA32 (blockStart .ia (coreA32.getX 2) 1) (registersOf 1).length ∧
    (∀ m ∈ [BlockMode.ia, .ib, .da, .db], wellFormed (ldmOf m .al true 1 0x8009) = true) := by
  unfold BlockRouted
  decide +kernel

/-- The same for STM, with the base in the list as its lowest register, and a next state in each mode. -/
theorem test_meets_StoreMultiple :
    (∀ m ∈ [BlockMode.ia, .ib], wellFormed (stmOf m .al true 1 0x8002) = true ∧
      BlockRouted coreA32 (blockStart m (coreA32.getX 1) 0x8002) (registersOf 0x8002).length ∧
      (nextOf (exec (stmOf m .al true 1 0x8002) coreA32)).isSome = true) ∧
    (∀ m ∈ [BlockMode.da, .db], wellFormed (stmOf m .al false 2 0x8001) = true ∧
      BlockRouted coreA32 (blockStart m (coreA32.getX 2) 0x8001) (registersOf 0x8001).length ∧
      (nextOf (exec (stmOf m .al false 2 0x8001) coreA32)).isSome = true) := by
  unfold BlockRouted
  decide +kernel

theorem test_meets_Swaps :
    ∀ p ∈ [(Instr.swp .al 1 0 3, LoadKind.word), (Instr.swpb .al 1 0 3, LoadKind.byte)],
      wellFormed p.1 = true ∧ (nextOf (exec p.1 coreA32)).isSome = true ∧
      (route coreA32.cfg (p.2.access (coreA32.getX 1)).1.toNat (p.2.access (coreA32.getX 1)).2.bytes).isSome = true := by
  decide +kernel

/-- A writable buffer at its last word, a read-only one, an I/O block at its last byte, and no entry; the first of two entries
that contain an address answers, and only where the access ends inside it. -/
theorem test_meets_BusReadBack :
    Memory.wf coreA32.mem = true ∧ route coreA32.cfg 0x03007FFC 4 = some (iwram, 0x7FFC) ∧ iwram.kind = .buffer false ∧
    (route coreA32.cfg 0x09FFFFFF 1).map (fun p => p.1.kind) = some (.buffer true) ∧
    (route coreA32.cfg 0x040003FF 1).map (fun p => (p.1.kind, p.2)) = some (.io 0, 0x3FF) ∧
    route coreA32.cfg 0x0A000000 1 = none ∧
    route { Config.a32 with map := [⟨0, 15, iwram, 4⟩, ⟨8, 31, romN8, 0⟩] } 12 4 = some (iwram, 16) ∧
    route { Config.a32 with map := [⟨0, 15, iwram, 4⟩, ⟨8, 31, romN8, 0⟩] } 14 4 = none := by
  decide +kernel

/-- A store to an I/O block with one of its offsets bound: that byte's event says so, and only that one's (R128, R130). -/
theorem test_io_bound :
    (nextOf (step { startA32 0xE1C100B0 [(0, 0x1122), (1, 0x04000004)] 0xD3 [] with
      cfg := { Config.a32 with bindings := [(0, 5)] } })).map (fun t => t.events) =
      some [.advance 2, .ioWrite 5 0x11 true, .ioWrite 4 0x22 false] := by
  decide +kernel

/-- The places HL, BC, DE, a16 and 0xFF00 + a8 are routed, and are not. -/
theorem test_meets_MemoryLoads :
    Routes8 coreN8 (coreN8.getPair .hl) workRam 0 ∧ Routes8 coreN8 (coreN8.getPair .bc) workRam 1 ∧
    Routes8 coreN8 (coreN8.getPair .de) workRam 2 ∧ Routes8 coreN8 0xDFFF workRam 0x1FFF ∧
    Routes8 coreN8 (half 0xFF 0x80) ⟨.buffer false, 0x7F, 0xFF80⟩ 0 ∧ route coreN8.cfg (0xE000#16).toNat 1 = none := by
  unfold Routes8
  decide +kernel

theorem test_meets_MemoryStores :
    (∀ i ∈ [Instr.ld_mhl_d8 1, .ld_mhl_h, .ld_mbc_a, .ld_mde_a, .ld_ma16_a 0xDFFF, .ldh_ma8_a 0x80, .ld_mhli_a, .ld_mhld_a],
      (nextOf (exec i coreN8)).isSome = true) ∧
    Routes8 coreN8 (coreN8.getPair .hl) workRam 0 ∧ route coreN8.cfg (0xE000#16).toNat 1 = none := by
  unfold Routes8
  decide +kernel

theorem test_meets_StackTransfers :
    Routes8 coreN8 (coreN8.sp - 1) workRam 0x1FFD ∧ Routes8 coreN8 (coreN8.sp - 2) workRam 0x1FFC ∧
    Routes8 coreN8 coreN8.sp workRam 0x1FFE ∧ Routes8 coreN8 (coreN8.sp + 1) workRam 0x1FFF ∧
    Routes8 coreN8 0xC100 workRam 0x100 ∧ Routes8 coreN8 (0xC100 + 1) workRam 0x101 := by
  unfold Routes8
  decide +kernel

/-- A push whose high byte is not routed, one whose low byte is not, and the pops alike; a CALL cc and a RET cc that pass;
LD (a16), SP past work RAM and across its end; HL past work RAM. -/
theorem test_meets_StackFaults :
    route coreN8.cfg (0xE001#16 - 1).toNat 1 = none ∧
    ((route coreN8.cfg (0xFE01#16 - 1).toNat 1).isSome = true ∧ route coreN8.cfg (0xFE01#16 - 2).toNat 1 = none) ∧
    route coreN8.cfg (0xE000#16).toNat 1 = none ∧
    (Routes8 coreN8 0xDFFF workRam 0x1FFF ∧ route coreN8.cfg (0xDFFF#16 + 1).toNat 1 = none) ∧
    (Instr.call_nz_a16 5 ∈ (callCcForms.filter (fun p => ccPassed p.2 coreN8.n8.f)).map (fun p => p.1 5) ∧
      Instr.ret_nc ∈ (retCcForms.filter (fun p => ccPassed p.2 coreN8.n8.f)).map Prod.fst) ∧
    ((route coreN8.cfg (0xDFFF#16).toNat 1).isSome = true ∧ route coreN8.cfg (0xDFFF#16 + 1).toNat 1 = none) ∧
    route coreN8.cfg (({ coreN8 with n8 := ⟨1, 0, 0, 0, 0, 0, 0xE0, 0⟩ } : State).getPair .hl).toNat 1 = none := by
  unfold Routes8
  decide +kernel

/-- The place of (HL) for `AluInstructions`, `IncDec`, `CbRotates` and `CbBits`, and the next states of `N8StoreFrames`. -/
theorem test_meets_N8_memory_operands :
    Routes8 coreN8 (coreN8.getPair .hl) workRam 0 ∧
    (∀ i ∈ [Instr.inc_mhl, .dec_mhl] ++ cbRotHlForms.map Prod.fst ++ resHlForms.map Prod.fst ++ setHlForms.map Prod.fst
        ++ pushForms.map Prod.fst ++ [Instr.call_a16 0x0200] ++ callCcForms.map (fun p => p.1 0x0200)
        ++ rstForms.map Prod.fst,
      (nextOf (exec i coreN8)).isSome = true) := by
  unfold Routes8
  decide +kernel

/-- Conditions that pass and that fail; the stack of `coreN8` is routed (`test_meets_StackTransfers`). -/
theorem test_meets_CallsReturns :
    (∀ p ∈ [(CC.nz, 0x00#8), (CC.z, 0x80#8), (CC.nc, 0x00#8), (CC.c, 0x10#8)], ccPassed p.1 p.2 = true) ∧
    (∀ p ∈ [(CC.nz, 0x80#8), (CC.z, 0x00#8), (CC.nc, 0x10#8), (CC.c, 0x00#8)], ccPassed p.1 p.2 = false) := by
  decide +kernel

/-- A state of each profile to be reset. -/
theorem test_meets_ResetValues :
    coreA32.cfg.profile = .a32 ∧ coreN8.cfg.profile = .n8 ∧ (resetAt coreA32 0x08000003).getX 15 = 0x08000000 ∧
    (resetAt coreN8 0x10100).pc = 0x0100 := by
  decide +kernel

/-- Invariant states of both profiles whose step answers a next state, one of them a halted one. -/
theorem test_meets_StepKeepsInvariant :
    (Memory.wf coreA32.mem = true ∧ PcAligned coreA32 ∧ (nextOf (step coreA32)).isSome = true) ∧
    (Memory.wf coreN8.mem = true ∧ PcAligned coreN8 ∧ (nextOf (step coreN8)).isSome = true) ∧
    (nextOf (step { coreN8 with running := false })).isSome = true := by
  decide +kernel

/-- A step that faults, with the site its record names. -/
theorem test_meets_StepOutcomes :
    (faultOf (step (startA32 0xEF000000 [] 0xD3 []))).isSome = true ∧
    (faultOf (step { coreN8 with pc := 0xE000 })).isSome = true := by
  decide +kernel

/-- Instructions that do change T, `running` and F[3:0]. -/
theorem test_meets_OnlyTheseChange :
    (nextOf (exec (.bx .al 1) (coreA32.setX 1 0x03000101))).map (fun t => t.sw.getLsbD 5) = some true ∧
    (nextOf (exec .halt coreN8)).map (·.running) = some false ∧
    (nextOf (exec .pop_af { coreN8 with mem := [(0xDFFE, 0x0F)] })).map (fun t => t.n8.f) = some 0x0F := by
  decide +kernel

/-- A cell of ROM is in no writable buffer of the default map. -/
theorem test_meets_ReadOnlyUnchanged :
    ∀ e ∈ coreA32.cfg.map, e.region.kind = .buffer false →
      0x08000000 < e.region.base + e.localBase ∨ e.region.base + e.localBase + (e.last - e.start) < 0x08000000 := by
  decide +kernel

/-- The default maps meet `MapOk`; a request that fits, and one of each kind that is rejected (T5). -/
theorem test_meets_HostMapKeepsMap :
    MapOk Config.a32 ∧ MapOk Config.n8 ∧
    (hostMap coreN8 0xE000 0x100 ⟨.buffer false, 0x100, 0xE000⟩ 0).isOk = true ∧
    (hostMap coreN8 0xDF80 0x100 ⟨.buffer false, 0x100, 0xE000⟩ 0).isOk = false ∧
    (hostMap coreN8 0xE000 0 ⟨.buffer false, 0x100, 0xE000⟩ 0).isOk = false ∧
    (hostMap coreN8 0xE000 0x100 ⟨.buffer false, 0x100, 0xE000⟩ 1).isOk = false ∧
    (hostMap coreN8 0xFFFF 2 ⟨.buffer false, 0x100, 0xE000⟩ 0).isOk = false := by
  decide +kernel

/-- The offsets of an I/O block bind one after another, at most once each, and none outside it or in a buffer (R128). -/
theorem test_meets_HostMapKeepsMap_ioBind :
    (((ioBind coreA32 ioRegs 5).toOption.bind (fun t => (ioBind t ioRegs 6).toOption)).map (fun t => t.cfg.bindings)) =
      some [(0, 6), (0, 5)] ∧
    (((ioBind coreA32 ioRegs 5).toOption.map (fun t => (ioBind t ioRegs 5).isOk))) = some false ∧
    (ioBind coreA32 ioRegs 0x3FF).isOk = true ∧ (ioBind coreA32 ioRegs 0x400).isOk = false ∧
    (ioBind coreA32 iwram 0).isOk = false := by
  decide +kernel

/-- T8: runs that end in a self-loop, at the bound, in the halted state and in a fault; one without a bound that is cut off. -/
theorem test_meets_RunBoundEnds :
    (runBound 100 (startA32 0xEAFFFFFE [] 0xD3 [])).1 = .selfLoop 1 0x08000000 ∧
    (runBound 1 (startA32 0x0AFFFFFE [] 0xD3 [])).1 = .boundReached 1 ∧
    (runBound 100 (startN8 [0x76] ⟨0, 0, 0, 0, 0, 0, 0, 0⟩ 0 [])).1 = .halted 1 ∧
    (runBound 100 (startN8 [0x00, 0xD3] ⟨0, 0, 0, 0, 0, 0, 0, 0⟩ 0 [])).1 =
      .fault 1 (.unimplemented ⟨.n8, 0x0101, 0xD3, 0⟩ 0xD3 0x0101) ∧
    (runFree 100 (startN8 [0x00, 0x76] ⟨0, 0, 0, 0, 0, 0, 0, 0⟩ 0 [])).1 = .halted 2 ∧
    (runFree 2 (startN8 [0x00, 0x00] ⟨0, 0, 0, 0, 0, 0, 0, 0⟩ 0 [])).1 = .outOfFuel 2 := by
  decide +kernel

/-! ## The words the host places -/

/-- What `withFetchWord` places is what the next step runs, in either profile, right after reset. -/
theorem test_withFetchWord :
    (nextOf (step (State.reset.withFetchWord 32 0xE3A00FFF))).map (fun t => t.getX 0) = some 0x3FC ∧
    decodeTableWord 32 0xE3A00FFF = some (.movImm .al false 0 ⟨15, 0xFF⟩) ∧
    (nextOf (step (State.reset.withFetchWord 8 0x3E))).map (fun t => (t.n8.a, t.pc)) = some (0, 2) ∧
    decodeTableWord 8 0x3E = some (.ld_a_d8 0) ∧ decodeTableWord 16 0xCB37 = some .swap_a := by
  decide +kernel

end Sys2Proof.Tests
end

namespace Sys2Proof.Machine

/-! ## A step is a chain of moves and one `advance`

`step_chain` says for every step what `exec_done` says for every instruction: what a step keeps is an induction over the
chain before its one `advance`. -/

/-- One thing a step of a core of profile `p` may do before it calls `advance`. -/
inductive StepMove (p : Profile) : State → State → Prop where
  | reads {s u : State} (h : Reads s u) : StepMove p s u
  | move {i : Instr} {s u : State} (hi : i.profile = p) (h : Move i s u) : StepMove p s u
  | advance4 (hp : p = .a32) (s : State) : StepMove p s s.advance4
  | noOp (hp : p = .a32) (s : State) (a w : Word) : StepMove p s (s.emit (.unrecognizedNoOp a w))

/-- A step that answers a next state: a chain of moves, then the one `advance` (R243). -/
theorem step_chain {s t : State} (h : step s = .next t) :
    ∃ (u : State) (n : Nat), Relation.ReflTransGen (StepMove s.cfg.profile) s u ∧ t = u.emit (.advance n) := by
  obtain ⟨_, rfl⟩ | ⟨_, u, hu, ⟨i, hi, hx⟩ | ⟨hp, rfl | ⟨w, rfl⟩⟩⟩ := step_next h
  case inl => exact ⟨s, 0, .refl, rfl⟩
  all_goals have hfetch := Relation.ReflTransGen.single (StepMove.reads (p := s.cfg.profile) hu)
  · obtain ⟨v, row, hm, rfl⟩ := (exec_done i u).next t hx
    exact ⟨v, _, hfetch.trans (Relation.ReflTransGen.mono (fun _ _ => .move hi) _ _ hm), rfl⟩
  · exact ⟨_, _, hfetch.tail (.advance4 hp u), rfl⟩
  · exact ⟨_, _, (hfetch.tail (.noOp hp u _ w)).tail (.advance4 hp _), rfl⟩

/-! ## The setup, the mode bits and the other profile's registers (R63, R110, log 1) -/

/-- What a step of a core of profile `p` leaves alone. -/
structure KeepsSetup (p : Profile) (s t : State) : Prop where
  cfg : t.cfg = s.cfg
  mode : modeBits t.sw = modeBits s.sw
  n8Registers : p = .a32 → t.n8 = s.n8 ∧ t.sp = s.sp ∧ t.pc = s.pc
  a32Registers : p = .n8 → t.x = s.x ∧ t.sw = s.sw

theorem KeepsSetup.refl (p : Profile) (s : State) : KeepsSetup p s s :=
  ⟨rfl, rfl, fun _ => ⟨rfl, rfl, rfl⟩, fun _ => ⟨rfl, rfl⟩⟩

theorem KeepsSetup.trans {p : Profile} {s t u : State} (h : KeepsSetup p s t) (h' : KeepsSetup p t u) :
    KeepsSetup p s u where
  cfg := h'.cfg.trans h.cfg
  mode := h'.mode.trans h.mode
  n8Registers hp := by
    obtain ⟨hn, hsp, hpc⟩ := h.n8Registers hp
    obtain ⟨hn', hsp', hpc'⟩ := h'.n8Registers hp
    exact ⟨hn'.trans hn, hsp'.trans hsp, hpc'.trans hpc⟩
  a32Registers hp := by
    obtain ⟨hx, hsw⟩ := h.a32Registers hp
    obtain ⟨hx', hsw'⟩ := h'.a32Registers hp
    exact ⟨hx'.trans hx, hsw'.trans hsw⟩

/-- An A32 core owes the registers of N8. -/
theorem KeepsSetup.of_a32 {p : Profile} {s t : State} (hp : p = .a32) (hc : t.cfg = s.cfg)
    (hm : modeBits t.sw = modeBits s.sw) (hn : t.n8 = s.n8) (hsp : t.sp = s.sp) (hpc : t.pc = s.pc) :
    KeepsSetup p s t :=
  ⟨hc, hm, fun _ => ⟨hn, hsp, hpc⟩, fun h => by rw [hp] at h; cases h⟩

/-- An N8 core owes the registers of A32. -/
theorem KeepsSetup.of_n8 {p : Profile} {s t : State} (hp : p = .n8) (hc : t.cfg = s.cfg) (hx : t.x = s.x)
    (hsw : t.sw = s.sw) : KeepsSetup p s t :=
  ⟨hc, congrArg modeBits hsw, fun h => (by rw [hp] at h; cases h), fun _ => ⟨hx, hsw⟩⟩

/-- An instruction keeps the setup, the mode bits and the registers of the profile it is not of. -/
theorem Move.keepsSetup {i : Instr} {s t : State} (h : Move i s t) : KeepsSetup i.profile s t := by
  cases h with
  | setX h => exact .of_a32 h rfl rfl rfl rfl rfl
  | writePC h => exact .of_a32 h rfl rfl rfl rfl rfl
  | advance4 h => exact .of_a32 h rfl rfl rfl rfl rfl
  | flags h _ f => exact .of_a32 h rfl (modeBits_setFlagsA32 _ f) rfl rfl rfl
  | exchange h _ b =>
    obtain ⟨c, r, rfl⟩ := h
    exact .of_a32 rfl rfl (modeBits_setBit_five _ b) rfl rfl rfl
  | status h _ _ _ hM => exact .of_a32 h rfl hM rfl rfl rfl
  | n8 h => exact .of_n8 h rfl rfl rfl
  | sp h => exact .of_n8 h rfl rfl rfl
  | pc h => exact .of_n8 h rfl rfl rfl
  | halt h =>
    subst h
    exact .of_n8 rfl rfl rfl rfl
  | read => exact ⟨rfl, rfl, fun _ => ⟨rfl, rfl, rfl⟩, fun _ => ⟨rfl, rfl⟩⟩
  | draws h => exact .of_a32 h rfl rfl rfl rfl rfl
  | write =>
    exact ⟨writeBytes_cfg .., by rw [writeBytes_sw], fun _ => ⟨writeBytes_n8 .., writeBytes_sp .., writeBytes_pc ..⟩,
      fun _ => ⟨writeBytes_x .., writeBytes_sw ..⟩⟩

theorem StepMove.keepsSetup {p : Profile} {s t : State} (h : StepMove p s t) : KeepsSetup p s t := by
  cases h with
  | reads h =>
    obtain ⟨latch, k, rfl⟩ := h
    exact ⟨rfl, rfl, fun _ => ⟨rfl, rfl, rfl⟩, fun _ => ⟨rfl, rfl⟩⟩
  | move hi h => exact hi ▸ h.keepsSetup
  | advance4 hp => exact .of_a32 hp rfl rfl rfl rfl rfl
  | noOp hp => exact .of_a32 hp rfl rfl rfl rfl rfl

theorem stepMoves_keepsSetup {p : Profile} {s t : State} (h : Relation.ReflTransGen (StepMove p) s t) :
    KeepsSetup p s t := by
  induction h with
  | refl => exact .refl p s
  | tail _ hm ih => exact ih.trans hm.keepsSetup

/-- Settles O55: every move before the `advance` keeps the setup, the mode bits and the other profile's registers, and the
`advance` only adds an event. -/
theorem stepKeepsSetup : Obligations.StepKeepsSetup := by
  intro s t h
  obtain ⟨u, n, hu, rfl⟩ := step_chain h
  obtain ⟨hcfg, hmode, hn8, ha32⟩ := stepMoves_keepsSetup hu
  exact ⟨hcfg, hmode, hn8, ha32⟩

/-! ## What the host sees of a step before its `advance` (R15, R243, log 6) -/

/-- From `s` to `t` events are only added, and none of them is a call of `advance`. -/
def AddsNoAdvance (s t : State) : Prop :=
  ∃ seen : List Event, t.events = seen ++ s.events ∧ ∀ k, Event.advance k ∉ seen

theorem AddsNoAdvance.of_eq {s t : State} (h : t.events = s.events) : AddsNoAdvance s t :=
  ⟨[], h, fun _ => List.not_mem_nil⟩

theorem AddsNoAdvance.trans {s t u : State} (h : AddsNoAdvance s t) (h' : AddsNoAdvance t u) : AddsNoAdvance s u := by
  obtain ⟨seen, he, hno⟩ := h
  obtain ⟨later, he', hno'⟩ := h'
  refine ⟨later ++ seen, by rw [he', he, List.append_assoc], fun k hk => ?_⟩
  exact (List.mem_append.1 hk).elim (hno' k) (hno k)

/-- What the host sees of a write is the bytes presented to an I/O block (R130), and nothing of a buffer. -/
theorem writeBytes_addsNoAdvance (s : State) (r : Region) (o : Nat) (l : List Byte) :
    AddsNoAdvance s (s.writeBytes r o l) := by
  cases hk : r.kind with
  | buffer readOnly =>
    cases readOnly with
    | true => exact .of_eq (by rw [writeBytes_readOnly hk])
    | false => exact .of_eq (by rw [writeBytes_buffer hk])
  | io b =>
    rw [writeBytes_io hk]
    refine ⟨_, rfl, fun k hmem => ?_⟩
    obtain ⟨_, _, he⟩ := List.mem_mapIdx.1 (List.mem_reverse.1 hmem)
    cases he

theorem Move.addsNoAdvance {i : Instr} {s t : State} (h : Move i s t) : AddsNoAdvance s t := by
  cases h with
  | write => exact writeBytes_addsNoAdvance ..
  | _ => exact .of_eq rfl

theorem StepMove.addsNoAdvance {p : Profile} {s t : State} (h : StepMove p s t) : AddsNoAdvance s t := by
  cases h with
  | reads h =>
    obtain ⟨latch, k, rfl⟩ := h
    exact .of_eq rfl
  | move _ h => exact h.addsNoAdvance
  | advance4 _ => exact .of_eq rfl
  | noOp _ _ a w => exact ⟨[.unrecognizedNoOp a w], rfl, fun k hk => nomatch List.mem_singleton.1 hk⟩

theorem stepMoves_addsNoAdvance {p : Profile} {s t : State} (h : Relation.ReflTransGen (StepMove p) s t) :
    AddsNoAdvance s t := by
  induction h with
  | refl => exact .of_eq rfl
  | tail _ hm ih => exact ih.trans hm.addsNoAdvance

/-- Settles O58: no move before the end of the step calls `advance`, and the step ends in the one call. -/
theorem oneAdvance : Obligations.OneAdvance := by
  intro s t h
  obtain ⟨u, n, hu, rfl⟩ := step_chain h
  obtain ⟨seen, he, hno⟩ := stepMoves_addsNoAdvance hu
  exact ⟨n, seen, by rw [emit_events, he], hno⟩

end Sys2Proof.Machine

namespace Sys2Proof.Machine

/-! ## Register accesses (R46, R47, R236, R237) -/

theorem maskPc_eq_sub (t : Bool) (v : Word) : maskPc t v = if t then v - v % 2 else v - v % 4 := by
  rw [maskPc, and_mask_two, and_mask_four]

theorem setX_setX (s : State) (i : Reg) (v w : Word) : (s.setX i v).setX i w = s.setX i w := by
  simp only [State.setX, Vector.set_set]

theorem writePC_writePC (s : State) (v w : Word) : (s.writePC v).writePC w = s.writePC w := setX_setX ..

theorem writeReg_fifteen (s : State) (v : Word) : s.writeReg 15 v = s.writePC v := if_pos rfl

theorem writeReg_of_ne {i : Reg} (h : i ≠ 15) (s : State) (v : Word) : s.writeReg i v = s.setX i v := if_neg h

theorem writeReg_writeReg (s : State) (i : Reg) (v w : Word) : (s.writeReg i v).writeReg i w = s.writeReg i w := by
  by_cases h : i = 15
  · subst h
    simp only [writeReg_fifteen, writePC_writePC]
  · simp only [writeReg_of_ne h, setX_setX]

/-- Settles O16: a read is `ReadReg` itself, a write is one register with `WritePC`'s mask at R15, and the mask takes the remainder
by the fetch granularity away. -/
theorem registerAccess : Obligations.RegisterAccess := by
  intro s i j v w
  have hwrite : (s.writeReg i v).getX j =
      if j = i then (if i = 15 then (if flagT s.sw then v - v % 2 else v - v % 4) else v) else s.getX j := by
    rw [getX_writeReg_mask, maskPc_eq_sub]
  exact ⟨rfl, hwrite, writeReg_writeReg s i v w, writeReg_fifteen s v⟩

/-! ## Setting flags (R73) -/

/-- Four neighbouring bits, each set where a value is named, from the top one down: both status words hold their flags so. -/
theorem setBitOpt_four_getLsbD {n : Nat} (v : BitVec n) (lo : Nat) (hlo : lo + 3 < n) (b3 b2 b1 b0 : Option Bool) (j : Nat) :
    (setBitOpt (setBitOpt (setBitOpt (setBitOpt v (lo + 3) b3) (lo + 2) b2) (lo + 1) b1) lo b0).getLsbD j =
      (if j = lo + 3 then b3 else if j = lo + 2 then b2 else if j = lo + 1 then b1 else if j = lo then b0 else none).getD
        (v.getLsbD j) := by
  have hj : j = lo + 3 ∨ j = lo + 2 ∨ j = lo + 1 ∨ j = lo ∨ (j ≠ lo + 3 ∧ j ≠ lo + 2 ∧ j ≠ lo + 1 ∧ j ≠ lo) := by omega
  simp only [setBitOpt_getLsbD]
  rcases hj with rfl | rfl | rfl | rfl | ⟨h3, h2, h1, h0⟩
  · simp [hlo]
  · simp [show lo + 2 < n by omega]
  · simp [show lo + 1 < n by omega]
  · simp [show j < n by omega]
  · simp [h3, h2, h1, h0]

/-- The statement writes a bit's value by cases on whether it is named. -/
theorem getD_eq_match (o : Option Bool) (old : Bool) : o.getD old = match o with | some b => b | none => old := by
  cases o <;> rfl

/-- Settles O17: the flags of each profile are four neighbouring bits. -/
theorem setFlagsFrame : Obligations.SetFlagsFrame :=
  ⟨fun sw f j => (setBitOpt_four_getLsbD sw 28 (by decide) f.n f.z f.c f.v j).trans (getD_eq_match _ _),
   fun f u j => (setBitOpt_four_getLsbD f 4 (by decide) u.z u.n u.h u.c j).trans (getD_eq_match _ _)⟩

/-! ## The invariant (R45, log 4) -/

theorem toNat_mod_two_eq_zero_iff (v : Word) : v.toNat % 2 = 0 ↔ v.getLsbD 0 = false := by
  simp [BitVec.getLsbD, Nat.testBit_eq_decide_div_mod_eq]

theorem toNat_mod_four_eq_zero_iff (v : Word) : v.toNat % 4 = 0 ↔ v.getLsbD 0 = false ∧ v.getLsbD 1 = false := by
  simp only [BitVec.getLsbD, Nat.testBit_eq_decide_div_mod_eq, decide_eq_false_iff_not]
  omega

/-- The fetch granularity of a T bit, in bytes (R45). -/
def fetchGranularity (t : Bool) : Nat := if t then 2 else 4

theorem pcAligned_iff (s : State) : PcAligned s ↔ (s.getX 15).toNat % fetchGranularity (flagT s.sw) = 0 := by
  cases h : flagT s.sw with
  | true => simp [PcAligned, h, fetchGranularity, toNat_mod_two_eq_zero_iff]
  | false => simp [PcAligned, h, fetchGranularity, toNat_mod_four_eq_zero_iff]

theorem maskPc_toNat_mod (t : Bool) (v : Word) : (maskPc t v).toNat % fetchGranularity t = 0 := by
  cases t with
  | true => exact (toNat_mod_two_eq_zero_iff _).2 (by simp [maskPc])
  | false => exact (toNat_mod_four_eq_zero_iff _).2 (by simp [maskPc])

theorem pcAligned_writePC (s : State) (v : Word) : PcAligned (s.writePC v) := by
  rw [pcAligned_iff, getX_writePC, if_pos rfl]
  exact maskPc_toNat_mod (flagT s.sw) v

theorem pcAligned_advance4 {s : State} (h : PcAligned s) : PcAligned s.advance4 := by
  have hgran : fetchGranularity (flagT s.sw) = 2 ∨ fetchGranularity (flagT s.sw) = 4 := by
    cases flagT s.sw <;> decide
  rw [pcAligned_iff] at h ⊢
  rw [getX_advance4, if_pos rfl, advance4_sw, BitVec.toNat_add, show (4 : Word).toNat = 4 from rfl]
  rcases hgran with hg | hg <;> rw [hg] at h ⊢ <;> omega

theorem pcAligned_of_eq {s t : State} (hx : t.getX 15 = s.getX 15) (hT : flagT t.sw = flagT s.sw) (h : PcAligned s) :
    PcAligned t := by
  rw [pcAligned_iff] at h ⊢
  rw [hx, hT, h]

/-- What touches neither memory, nor R15, nor T keeps the invariant. -/
theorem Inv.of_eq {s t : State} (h : Inv s) (hm : t.mem = s.mem) (hx : t.getX 15 = s.getX 15)
    (hT : flagT t.sw = flagT s.sw) : Inv t :=
  ⟨by rw [hm, h.1], pcAligned_of_eq hx hT h.2⟩

theorem Inv.advance4 {s : State} (h : Inv s) : Inv s.advance4 := ⟨h.1, pcAligned_advance4 h.2⟩

/-- Every move of an instruction keeps the invariant: R15 moves by `WritePC` (BX after T is set) or by 4, T only by BX, and memory
only by writes. -/
theorem Move.keepsInv {i : Instr} {s t : State} (h : Move i s t) (hs : Inv s) : Inv t := by
  cases h with
  | setX _ _ r hr v => exact hs.of_eq rfl (by rw [getX_setX, if_neg (Ne.symm hr)]) rfl
  | writePC _ _ v => exact ⟨hs.1, pcAligned_writePC s v⟩
  | advance4 _ => exact hs.advance4
  | flags _ _ f => exact hs.of_eq rfl rfl (flagT_setFlagsA32 ..)
  | exchange _ _ b v => exact ⟨hs.1, pcAligned_writePC _ v⟩
  | status _ _ new hT _ => exact hs.of_eq rfl rfl hT
  | write _ _ _ _ r o _ =>
    exact ⟨writeBytes_wf hs.1 r o, pcAligned_of_eq (writeBytes_getX ..) (by rw [writeBytes_sw]) hs.2⟩
  | _ => exact hs.of_eq rfl rfl rfl

theorem StepMove.keepsInv {p : Profile} {s t : State} (h : StepMove p s t) (hs : Inv s) : Inv t := by
  cases h with
  | reads h =>
    obtain ⟨latch, k, rfl⟩ := h
    exact hs.of_eq rfl rfl rfl
  | move _ h => exact h.keepsInv hs
  | advance4 _ => exact hs.advance4
  | noOp _ _ a w => exact hs.of_eq rfl rfl rfl

theorem stepMoves_keepsInv {p : Profile} {s t : State} (h : Relation.ReflTransGen (StepMove p) s t) (hs : Inv s) :
    Inv t := by
  induction h with
  | refl => exact hs
  | tail _ hm ih => exact hm.keepsInv ih

/-- Settles O53: every move before the `advance` keeps the invariant, and the `advance` only adds an event. -/
theorem stepKeepsInvariant : Obligations.StepKeepsInvariant := by
  intro s t hs h
  obtain ⟨u, n, hu, rfl⟩ := step_chain h
  exact (stepMoves_keepsInv hu hs).of_eq rfl rfl rfl

/-! ## T, `running` and F[3:0] (R64, R72, R82) -/

/-- From `s` to `t`, instruction `i` leaves T, `running` and F[3:0] alone, but for the one instruction that may change each. -/
structure KeepsGuarded (i : Instr) (s t : State) : Prop where
  thumb : (∃ c r, i = .bx c r) ∨ flagT t.sw = flagT s.sw
  running : i = .halt ∨ t.running = s.running
  lowF : i = .pop_af ∨ t.n8.f.extractLsb' 0 4 = s.n8.f.extractLsb' 0 4

theorem KeepsGuarded.of_eq {i : Instr} {s t : State} (hT : flagT t.sw = flagT s.sw) (hr : t.running = s.running)
    (hf : t.n8.f = s.n8.f) : KeepsGuarded i s t :=
  ⟨.inr hT, .inr hr, .inr (by rw [hf])⟩

theorem KeepsGuarded.trans {i : Instr} {s t u : State} (h : KeepsGuarded i s t) (h' : KeepsGuarded i t u) :
    KeepsGuarded i s u where
  thumb := h.thumb.elim .inl fun e => h'.thumb.imp_right (·.trans e)
  running := h.running.elim .inl fun e => h'.running.imp_right (·.trans e)
  lowF := h.lowF.elim .inl fun e => h'.lowF.imp_right (·.trans e)

theorem lowNibble_congr {f g : Byte} (h : ∀ j, j < 4 → f.getLsbD j = g.getLsbD j) :
    f.extractLsb' 0 4 = g.extractLsb' 0 4 := by
  apply BitVec.eq_of_getLsbD_eq
  intro j hj
  rw [BitVec.getLsbD_extractLsb', BitVec.getLsbD_extractLsb', Nat.zero_add, h j hj]

theorem Move.keepsGuarded {i : Instr} {s t : State} (h : Move i s t) : KeepsGuarded i s t := by
  cases h with
  | flags _ _ f => exact .of_eq (flagT_setFlagsA32 ..) rfl rfl
  | exchange hbx _ _ _ => exact ⟨.inl hbx, .inr rfl, .inr rfl⟩
  | status _ _ new hT _ => exact .of_eq hT rfl rfl
  | n8 _ _ n hf => exact ⟨.inr rfl, .inr rfl, hf.imp_right lowNibble_congr⟩
  | halt hi => exact ⟨.inr rfl, .inl hi, .inr rfl⟩
  | write => exact .of_eq (by rw [writeBytes_sw]) (writeBytes_running ..) (by rw [writeBytes_n8])
  | _ => exact .of_eq rfl rfl rfl

theorem moves_keepGuarded {i : Instr} {s t : State} (h : Moves i s t) : KeepsGuarded i s t := by
  induction h with
  | refl => exact .of_eq rfl rfl rfl
  | tail _ hm ih => exact ih.trans hm.keepsGuarded

/-- Settles O56: only the moves of BX, HALT and POP AF touch T, `running` and F[3:0]. -/
theorem onlyTheseChange : Obligations.OnlyTheseChange := by
  intro i s t h
  obtain ⟨u, row, hu, rfl⟩ := (exec_done i s).next t h
  obtain ⟨hT, hr, hf⟩ := moves_keepGuarded hu
  exact ⟨hT.resolve_right, hr.resolve_right, hf.resolve_right⟩

/-! ## Reset (R90, R580) -/

theorem resetAt_a32 {s : State} (hp : s.cfg.profile = .a32) (entry : Word) : resetAt s entry = State.writePC
    { s with x := Vector.replicate 16 0, sw := s.cfg.resetStatusA32, openBus := 0, running := true } entry := by
  rw [resetAt, hp]

theorem resetAt_n8 {s : State} (hp : s.cfg.profile = .n8) (entry : Word) : resetAt s entry =
    { s with n8 := ⟨0, s.cfg.resetStatusN8, 0, 0, 0, 0, 0, 0⟩, sp := 0, pc := entry.setWidth 16, openBus := 0,
             running := true } := by
  rw [resetAt, hp]

/-- R15 after the reset of an A32 core, masked by the reset T bit (R46, R580). -/
theorem getX_fifteen_resetAt {s : State} (hp : s.cfg.profile = .a32) (entry : Word) :
    (resetAt s entry).getX 15 = maskPc (flagT s.cfg.resetStatusA32) entry := by
  rw [resetAt_a32 hp, getX_writePC, if_pos rfl, maskPc]

/-- The other registers after the reset of an A32 core. -/
theorem getX_resetAt_of_ne {s : State} (hp : s.cfg.profile = .a32) (entry : Word) {r : Reg} (hr : r ≠ 15) :
    (resetAt s entry).getX r = 0 := by
  rw [resetAt_a32 hp, getX_writePC, if_neg hr]
  simp [State.getX, Vector.get_eq_getElem]

theorem reset_eq_resetAt : State.reset = resetAt State.reset 0 := by decide

/-- The reset state lists no memory, and its R15 was written by `WritePC`. -/
theorem inv_reset : Inv State.reset :=
  ⟨Memory.wf_reset, by rw [reset_eq_resetAt, resetAt_a32 rfl]; exact pcAligned_writePC _ _⟩

theorem mapOk_a32 : MapOk Config.a32 := by decide

theorem mapOk_n8 : MapOk Config.n8 := by decide

/-- Settles O52: `reset` of each profile, the model's reset state as a reset of itself, and the default maps. -/
theorem resetValues : Obligations.ResetValues := by
  refine ⟨fun s entry hp => ⟨fun r hr => getX_resetAt_of_ne hp entry hr, ?_, ?_⟩, fun s entry hp => resetAt_n8 hp entry,
    ⟨reset_eq_resetAt, rfl, rfl⟩, inv_reset, mapOk_a32, mapOk_n8⟩
  · rw [getX_fifteen_resetAt hp, maskPc_eq_sub]
    rfl
  · rw [resetAt_a32 hp]
    exact ⟨rfl, rfl, rfl, rfl, rfl, rfl⟩

end Sys2Proof.Machine

namespace Sys2Proof.Machine

/-! ## The cells a step may change (R104, R105, R113) -/

/-- The cell is in the mapped part of no writable buffer. -/
def OutsideWritable (cfg : Config) (c : Nat) : Prop :=
  ∀ e ∈ cfg.map, e.region.kind = .buffer false →
    c < e.region.base + e.localBase ∨ e.region.base + e.localBase + (e.last - e.start) < c

/-- A routed write stays inside the entry that routes it, so a cell outside every writable entry reads as before. -/
theorem writeBytes_get_outside {s : State} {a n : Nat} {r : Region} {o : Nat} {l : List Byte}
    (hr : route s.cfg a n = some (r, o)) (hl : l.length = n) {c : Nat} (hc : OutsideWritable s.cfg c) :
    Memory.get (s.writeBytes r o l).mem c = Memory.get s.mem c := by
  obtain ⟨e, he, hstart, hlast, rfl, rfl⟩ := route_some_entry hr
  refine writeBytes_get fun hk j hj => ?_
  have := hc e he hk
  omega

theorem Move.get_outside {i : Instr} {s t : State} (h : Move i s t) {c : Nat} (hc : OutsideWritable s.cfg c) :
    Memory.get t.mem c = Memory.get s.mem c := by
  cases h with
  | write _ _ _ _ _ _ hr => exact writeBytes_get_outside hr (bytesOf_length ..) hc
  | _ => rfl

theorem StepMove.get_outside {p : Profile} {s t : State} (h : StepMove p s t) {c : Nat} (hc : OutsideWritable s.cfg c) :
    Memory.get t.mem c = Memory.get s.mem c := by
  cases h with
  | reads h =>
    obtain ⟨latch, k, rfl⟩ := h
    rfl
  | move _ h => exact h.get_outside hc
  | advance4 _ => rfl
  | noOp _ => rfl

theorem stepMoves_get_outside {p : Profile} {s t : State} (h : Relation.ReflTransGen (StepMove p) s t) {c : Nat}
    (hc : OutsideWritable s.cfg c) : Memory.get t.mem c = Memory.get s.mem c := by
  induction h with
  | refl => rfl
  | tail hmoves hm ih => exact (hm.get_outside (by rwa [(stepMoves_keepsSetup hmoves).cfg])).trans ih

/-- Settles O57: the one move that touches memory is a routed write, and the setup that says what is writable never changes. -/
theorem readOnlyUnchanged : Obligations.ReadOnlyUnchanged := by
  intro s t c h hc
  obtain ⟨u, n, hu, rfl⟩ := step_chain h
  exact stepMoves_get_outside hu hc

/-! ## `map` and `io_bind` (R111, R112, R128) -/

/-- What `map` asks of a request (R111). -/
def MapAdmits (cfg : Config) (start size : Nat) (region : Region) (localBase : Nat) : Prop :=
  size ≠ 0 ∧ start + size ≤ 2 ^ cfg.profile.alen ∧ localBase + size ≤ region.size ∧
    ∀ e ∈ cfg.map, start + size ≤ e.start ∨ e.last < start

theorem overlaps_eq_false_iff {m : List MapEntry} {start last : Nat} :
    overlaps m start last = false ↔ ∀ e ∈ m, last < e.start ∨ e.last < start := by
  simp only [overlaps, List.any_eq_false, Bool.and_eq_true, decide_eq_true_eq, not_and_or, not_le]

/-- A request is one that `map` takes exactly where the test by which `hostMap` refuses it fails. -/
theorem mapAdmits_iff (cfg : Config) (start size : Nat) (region : Region) (localBase : Nat) :
    MapAdmits cfg start size region localBase ↔ ¬(size = 0 ∨ start + size - 1 ≥ 2 ^ cfg.profile.alen ∨
      localBase + size > region.size ∨ overlaps cfg.map start (start + size - 1) = true) := by
  have hpos : 0 < 2 ^ cfg.profile.alen := Nat.two_pow_pos _
  simp only [MapAdmits, not_or, Bool.not_eq_true, overlaps_eq_false_iff, ne_eq]
  refine and_congr_right fun hsize => and_congr (by omega) (and_congr (by omega) ?_)
  exact forall₂_congr fun e _ => or_congr_left (by omega)

/-- The setup with an entry appended to its table (R111). -/
def withEntry (cfg : Config) (e : MapEntry) : Config := { cfg with map := cfg.map ++ [e] }

theorem hostMap_ok {s : State} {start size : Nat} {region : Region} {localBase : Nat}
    (h : MapAdmits s.cfg start size region localBase) : hostMap s start size region localBase =
      .ok { s with cfg := withEntry s.cfg ⟨start, start + size - 1, region, localBase⟩ } :=
  if_neg ((mapAdmits_iff ..).1 h)

theorem hostMap_error {s : State} {start size : Nat} {region : Region} {localBase : Nat}
    (h : ¬ MapAdmits s.cfg start size region localBase) : hostMap s start size region localBase =
      .error (.configuration (.map start size region localBase)) :=
  if_pos (not_not.1 (mt (mapAdmits_iff ..).2 h))

/-- A request that `map` admits keeps the table in order (R112). -/
theorem mapOk_withEntry {cfg : Config} {start size : Nat} {region : Region} {localBase : Nat} (hok : MapOk cfg)
    (h : MapAdmits cfg start size region localBase) :
    MapOk (withEntry cfg ⟨start, start + size - 1, region, localBase⟩) := by
  obtain ⟨hinside, hdisjoint⟩ := hok
  obtain ⟨hsize, hspace, hregion, hfree⟩ := h
  constructor
  · refine List.forall_mem_append.2 ⟨hinside, List.forall_mem_singleton.2 ?_⟩
    dsimp only [withEntry]
    omega
  · refine List.pairwise_append.2 ⟨hdisjoint, List.pairwise_singleton .., fun e he => List.forall_mem_singleton.2 ?_⟩
    have := hfree e he
    dsimp only [EntriesDisjoint]
    omega

theorem bindable_iff {cfg : Config} {r : Region} {offset : Nat} : bindable cfg r offset = true ↔
    ∃ b, r.kind = .io b ∧ offset < r.size ∧ (b, offset) ∉ cfg.bindings := by
  unfold bindable
  cases r.kind <;> simp

theorem ioBind_ok {s : State} {r : Region} {offset b : Nat} (hk : r.kind = .io b)
    (h : bindable s.cfg r offset = true) :
    ioBind s r offset = .ok { s with cfg := { s.cfg with bindings := (b, offset) :: s.cfg.bindings } } := by
  rw [ioBind, if_pos h, bindOffset, hk]

theorem ioBind_error {s : State} {r : Region} {offset : Nat} (h : ¬ bindable s.cfg r offset = true) :
    ioBind s r offset = .error (.configuration (.ioBind r offset)) := if_neg h

/-- Settles O59: each call by whether its request is admitted. -/
theorem hostMapKeepsMap : Obligations.HostMapKeepsMap := by
  constructor
  · intro s start size region localBase
    by_cases h : MapAdmits s.cfg start size region localBase
    · rw [hostMap_ok h]
      exact ⟨⟨fun _ => h, fun _ => ⟨_, rfl⟩⟩, rfl, fun hok => mapOk_withEntry hok h⟩
    · rw [hostMap_error h]
      exact ⟨⟨fun ⟨_, ht⟩ => (nomatch ht), fun hadmits => absurd hadmits h⟩, rfl⟩
  · intro s region offset
    rw [← bindable_iff]
    by_cases h : bindable s.cfg region offset = true
    · obtain ⟨b, hk, _⟩ := bindable_iff.1 h
      rw [ioBind_ok hk h]
      exact ⟨⟨fun _ => h, fun _ => ⟨_, rfl⟩⟩, b, hk, rfl⟩
    · rw [ioBind_error h]
      exact ⟨⟨fun ⟨_, ht⟩ => (nomatch ht), fun hb => absurd hb h⟩, rfl⟩

end Sys2Proof.Machine

namespace Sys2Proof.Machine

/-! ## Bytes and words (R103, R104, R122) -/

/-- Up to four bytes in little-endian order, as a number. -/
theorem littleEndian_cons_toNat {b : Byte} {rest : List Byte} (hl : (b :: rest).length ≤ 4)
    (hrest : (littleEndian rest).toNat < 2 ^ (8 * rest.length)) :
    (littleEndian (b :: rest)).toNat = b.toNat + 2 ^ 8 * (littleEndian rest).toNat := by
  have hshift : 2 ^ 8 * (littleEndian rest).toNat < 2 ^ 32 :=
    calc 2 ^ 8 * (littleEndian rest).toNat < 2 ^ 8 * 2 ^ (8 * rest.length) := by omega
      _ = 2 ^ (8 * (rest.length + 1)) := by rw [← pow_add, Nat.mul_succ, Nat.add_comm]
      _ ≤ 2 ^ 32 := Nat.pow_le_pow_right (by decide) (by rw [List.length_cons] at hl; omega)
  rw [littleEndian, BitVec.toNat_or, BitVec.toNat_shiftLeft, Nat.shiftLeft_eq, Nat.mul_comm,
    Nat.mod_eq_of_lt hshift, BitVec.toNat_setWidth, Nat.mod_eq_of_lt (by omega), Nat.or_comm, Nat.add_comm]
  exact (Nat.two_pow_add_eq_or_of_lt b.isLt _).symm

theorem littleEndian_toNat_lt {l : List Byte} (hl : l.length ≤ 4) : (littleEndian l).toNat < 2 ^ (8 * l.length) := by
  induction l with
  | nil => decide
  | cons b rest ih =>
    have hrest := ih (Nat.le_of_succ_le hl)
    rw [littleEndian_cons_toNat hl hrest, List.length_cons, Nat.mul_succ, pow_add]
    have := b.isLt
    omega

/-- Byte `j` of the number. -/
theorem littleEndian_digit {l : List Byte} (hl : l.length ≤ 4) {j : Nat} (hj : j < l.length) :
    (littleEndian l).toNat / 2 ^ (8 * j) % 2 ^ 8 = l[j].toNat := by
  induction l generalizing j with
  | nil => simp at hj
  | cons b rest ih =>
    have hb := b.isLt
    have hlen := Nat.le_of_succ_le hl
    rw [littleEndian_cons_toNat hl (littleEndian_toNat_lt hlen)]
    cases j with
    | zero => rw [List.getElem_cons_zero]; omega
    | succ j =>
      rw [List.getElem_cons_succ, ← ih hlen (Nat.lt_of_succ_lt_succ hj), Nat.mul_succ, Nat.add_comm (8 * j), pow_add,
        ← Nat.div_div_eq_div_mul]
      congr 2
      omega

theorem bytesOf_getElem_toNat (n : Nat) (v : Word) (j : Nat) (hj : j < (bytesOf n v).length) :
    (bytesOf n v)[j].toNat = v.toNat / 2 ^ (8 * j) % 2 ^ 8 := by
  simp [bytesOf, fld, BitVec.extractLsb'_toNat, Nat.shiftRight_eq_div_pow]

theorem bytesOf_succ (n : Nat) (v : Word) : bytesOf (n + 1) v = fld 0 8 v :: bytesOf n (v >>> 8) := by
  simp only [bytesOf, List.range_succ_eq_map, List.map_cons, List.map_map]
  congr 1
  refine List.map_congr_left fun i _ => BitVec.eq_of_getLsbD_eq fun j _ => ?_
  simp [fld, Nat.mul_succ, Nat.add_comm, Nat.add_left_comm]

/-- The low bytes of a word make the word's value at their width. -/
theorem littleEndian_bytesOf_toNat (v : Word) {n : Nat} (hn : n ≤ 4) :
    (littleEndian (bytesOf n v)).toNat = v.toNat % 2 ^ (8 * n) := by
  induction n generalizing v with
  | zero => simp [bytesOf, littleEndian, Nat.mod_one]
  | succ n ih =>
    have hlen : (fld 0 8 v :: bytesOf n (v >>> 8)).length ≤ 4 := by simpa using hn
    rw [bytesOf_succ, littleEndian_cons_toNat hlen (littleEndian_toNat_lt (Nat.le_of_succ_le hlen)),
      ih (v >>> 8) (Nat.le_of_succ_le hn), BitVec.toNat_ushiftRight, Nat.shiftRight_eq_div_pow, Nat.mul_succ,
      Nat.add_comm (8 * n), pow_add, Nat.mod_mul]
    simp [fld]

theorem bytes_le_four (w : Width) : w.bytes ≤ 4 := by cases w <;> decide

/-! ## Reads (R103, R120, R129) -/

@[simp] theorem regionBytes_length (m : List Host.Cell) (r : Region) (k o n : Nat) :
    (regionBytes m r k o n).length = n := by simp [regionBytes]

/-- The value read, byte by byte. -/
theorem readValue_digit (s : State) (r : Region) (o : Nat) {w : Width} {j : Nat} (hj : j < w.bytes) :
    (s.readValue r o w).toNat / 2 ^ (8 * j) % 2 ^ 8 = (regionByte s.mem r (s.draws + j) (o + j)).toNat := by
  rw [State.readValue, littleEndian_digit ((regionBytes_length ..).trans_le (bytes_le_four w)) (by simpa using hj)]
  simp [regionBytes]

theorem readValue_toNat_lt (s : State) (r : Region) (o : Nat) (w : Width) :
    (s.readValue r o w).toNat < 2 ^ (8 * w.bytes) := by
  simpa [State.readValue] using littleEndian_toNat_lt ((regionBytes_length s.mem r s.draws o _).trans_le (bytes_le_four w))

theorem regionByte_buffer {r : Region} {ro : Bool} (hk : r.kind = .buffer ro) (m : List Host.Cell) (k o : Nat) :
    regionByte m r k o = Memory.get m (r.base + o) := by rw [regionByte, hk]

theorem regionByte_io {r : Region} {b : Nat} (hk : r.kind = .io b) (m : List Host.Cell) (k o : Nat) :
    regionByte m r k o = Config.ioRead k o := by rw [regionByte, hk]

theorem afterRead_buffer {r : Region} {ro : Bool} (hk : r.kind = .buffer ro) (s : State) (o : Nat) (w : Width) :
    s.afterRead r o w = { s with openBus := s.readValue r o w } := by rw [State.afterRead, drawsOf, hk]; rfl

theorem afterRead_io {r : Region} {b : Nat} (hk : r.kind = .io b) (s : State) (o : Nat) (w : Width) :
    s.afterRead r o w = { s with openBus := s.readValue r o w, draws := s.draws + w.bytes } := by
  rw [State.afterRead, drawsOf, hk]

/-! ## Writes (R104, R121, R122, R130) -/

/-- A place of a writable buffer reads as the bytes written there. -/
theorem regionBytes_writeBytes {s : State} (hw : Memory.wf s.mem = true) {r : Region} (hk : r.kind = .buffer false)
    (o : Nat) (l : List Byte) (k : Nat) : regionBytes (s.writeBytes r o l).mem r k o l.length = l := by
  refine List.ext_getElem (regionBytes_length ..) fun j _ hj => ?_
  simp only [regionBytes, List.getElem_map, List.getElem_range, regionByte_buffer hk]
  exact writeBytes_get_written hw hk j hj

/-- A value stored in a writable buffer reads back, cut to its width. -/
theorem readValue_writeBytes {s : State} (hw : Memory.wf s.mem = true) {r : Region} (hk : r.kind = .buffer false)
    (o : Nat) (v : Word) (w : Width) :
    ((s.writeBytes r o (bytesOf w.bytes v)).readValue r o w).toNat = v.toNat % 2 ^ (8 * w.bytes) := by
  have hbytes := regionBytes_writeBytes hw hk o (bytesOf w.bytes v) s.draws
  rw [bytesOf_length] at hbytes
  rw [State.readValue, writeBytes_draws, hbytes, littleEndian_bytesOf_toNat v (bytes_le_four w)]

theorem fld_eq_setWidth (lo len : Nat) (w : Word) : fld lo len w = (w >>> lo).setWidth len := by
  refine BitVec.eq_of_getLsbD_eq fun i hi => ?_
  simp [fld, hi]

theorem writeBytes_byte (s : State) (r : Region) (o : Nat) (v : Word) :
    s.writeBytes r o (bytesOf 1 v) = s.writeByte r o (v.setWidth 8) := by
  have : bytesOf 1 v = [v.setWidth 8] := by simp [bytesOf, fld_eq_setWidth]
  rw [this, State.writeBytes, State.writeBytes]

/-- The events of a write to an I/O block, each byte a shift of the value (R130). -/
theorem writeBytes_io_bytesOf {s : State} {r : Region} {b : Nat} (hk : r.kind = .io b) (o n : Nat) (v : Word) :
    s.writeBytes r o (bytesOf n v) = { s with
      events := ((List.range n).map (fun j =>
        Event.ioWrite (o + j) ((v >>> (8 * j)).setWidth 8) (decide ((b, o + j) ∈ s.cfg.bindings)))).reverse
          ++ s.events } := by
  rw [writeBytes_io hk]
  congr 3
  refine List.ext_getElem (by simp) fun j _ _ => ?_
  simp [bytesOf, fld_eq_setWidth, List.contains_eq_mem]

/-- Settles O34: routing by its iff, then a read and a write by the kind of the region. -/
theorem busReadBack : Obligations.BusReadBack := by
  refine ⟨fun cfg a n r o => route_some_iff,
    fun s a w r o hr => ⟨load_of_route hr, readValue_toNat_lt s r o w, ?_, ?_, ?_⟩,
    fun s a v w r o hw hr => ⟨_, store_of_route hr, rfl, ?_, ?_, ?_, ?_⟩,
    fun s a v w hr => ⟨load_of_none hr, store_of_none hr⟩⟩
  · rintro rfl
    exact readValue_byte s r o
  · intro ro hk
    exact ⟨afterRead_buffer hk s o w, fun j hj => by rw [readValue_digit s r o hj, regionByte_buffer hk]⟩
  · intro b hk
    exact ⟨afterRead_io hk s o w, fun j hj => by rw [readValue_digit s r o hj, regionByte_io hk]⟩
  · rintro rfl
    exact writeBytes_byte s r o v
  · intro hk
    exact writeBytes_readOnly hk _ o
  · intro hk
    refine ⟨writeBytes_buffer hk _ o, writeBytes_wf hw r o, readValue_writeBytes hw hk o v w, fun j hj => ?_,
      fun c hc => ?_⟩
    · have hj' : j < (bytesOf w.bytes v).length := by simpa using hj
      rw [writeBytes_get_written hw hk j hj', bytesOf_getElem_toNat]
    · exact writeBytes_get fun _ j hj => hc j (by simpa using hj)
  · intro b hk
    exact writeBytes_io_bytesOf hk o w.bytes v

end Sys2Proof.Machine

namespace Sys2Proof.Machine

/-! ## The end of an A32 transfer (R228, R237, R243) -/

/-- What accesses to the Bus leave of a state. -/
structure KeepsRegisters (s u : State) : Prop where
  x : u.x = s.x
  sw : u.sw = s.sw
  n8 : u.n8 = s.n8
  sp : u.sp = s.sp
  pc : u.pc = s.pc
  running : u.running = s.running
  cfg : u.cfg = s.cfg

theorem store_keepsRegisters {s u : State} {a v : Word} {w : Width} (h : s.store a w v = .ok u) :
    KeepsRegisters s u := by
  obtain ⟨r, o, _, rfl⟩ := store_ok h
  exact ⟨writeBytes_x .., writeBytes_sw .., writeBytes_n8 .., writeBytes_sp .., writeBytes_pc .., writeBytes_running ..,
    writeBytes_cfg ..⟩

theorem storeMany_keepsRegisters {s u : State} {a : Word} {l : List Word} (h : storeMany s a l = .ok u) :
    KeepsRegisters s u := by
  obtain ⟨hx, hsw, _, _, hn8, hsp, hpc, hrunning, hcfg⟩ := storeMany_same l s u a h
  exact ⟨hx, hsw, hn8, hsp, hpc, hrunning, hcfg⟩

/-- An instruction whose accesses left `u` and that then writes registers. -/
theorem a32Ends_writeRegs {s u : State} (h : KeepsRegisters s u) (writes : List (Reg × Word)) (row : CostRow) :
    A32Ends s u ((writeRegs u.advance4 writes).retire row) writes s.sw (s.cfg.cost row) := by
  obtain ⟨hx, hsw, hn8, hsp, hpc, hrunning, hcfg⟩ := h
  have hget (r : Reg) : u.getX r = s.getX r := congrArg (fun x : Vector Word 16 => x.get r.toFin) hx
  have hregs (r : Reg) : (writeRegs u.advance4 writes).getX r =
      regAfter (flagT s.sw) writes r (if r = 15 then s.getX 15 + 4 else s.getX r) := by
    rw [← hsw]
    exact writeRegs_getX writes u.advance4 r _ (by rw [getX_advance4, hget, hget])
  exact a32Ends_retire s u _ writes s.sw row hregs (by simp [hsw]) (by simp) (by simp) (by simp) (by simp) (by simp [hn8])
    (by simp [hsp]) (by simp [hpc]) (by simp [hrunning]) (by simp [hcfg])

theorem writeBack_eq_writeRegs (wb : Bool) (t : State) (rn : Reg) (v : Word) :
    (if wb then t.writeReg rn v else t) = writeRegs t (if wb then [(rn, v)] else []) := by
  cases wb <;> rfl

theorem a32Ends_onlyCells {s u t : State} {writes : List (Reg × Word)} {sw : Word} {cycles : Nat} {cells : List Nat}
    (h : A32Ends s u t writes sw cycles) (hu : ∀ c, c ∉ cells → Memory.get u.mem c = Memory.get s.mem c) :
    OnlyCells s t cells :=
  onlyCells_of h.setup fun c hc => by rw [h.memory, hu c hc]

/-- Where the condition passes, a next state is the instruction's own effect. -/
theorem a32Run_next {c : Cond} {i : Instr} {s t : State} {body : State → Result} (hc : conditionPassed c s.sw = true)
    (h : a32Run c i s body = .next t) : body s = .next t := by
  rw [a32Run, if_pos hc] at h
  split at h
  · cases h
  · exact h

/-! ## Single transfers (R360 to R375) -/

/-- The addresses of a load form as the model's own transfers take them. -/
def LoadForm.transfer (f : LoadForm) (s : State) : Addr := ⟨f.addr s, f.newBase s, f.writeback⟩

/-- The addresses of a store form as the model's own transfers take them. -/
def StoreForm.transfer (f : StoreForm) (s : State) : Addr := ⟨f.addr s, f.newBase s, f.writeback⟩

/-- A half-word transfer writes the base back where W = 1 or P = 0 (R369). -/
theorem halfAddr_eq (pre up wb : Bool) (rn : Reg) (off : State → Word) (s : State) :
    halfAddr pre up wb (s.readReg rn) (off s) = ⟨halfIndexed pre up rn off s, indexed up rn off s, wb || !pre⟩ := by
  cases pre
  · rw [Bool.not_false, Bool.or_true]; rfl
  · rw [Bool.not_true, Bool.or_false]; rfl

/-- Every form of a load is the model's `loadSingle` behind the condition. -/
theorem exec_loadForm (c : Cond) (pre up wb : Bool) (rn rd : Reg) (imm12 : BitVec 12) (op : ShiftImm) (imm8 : Byte)
    (rm : Reg) : ∀ f ∈ ldrForms c up wb rn rd imm12 op ++ ldrbForms c up wb rn rd imm12 op ++
      ldrhForms c pre up wb rn rd imm8 rm,
    ∀ s, exec f.instr s = a32Run f.cond f.instr s (loadSingle f.kind f.rd f.rn (f.transfer s)) := by
  refine List.forall_mem_append.2 ⟨List.forall_mem_append.2 ⟨?words, ?bytes⟩, ?halves⟩
  case halves =>
    simp only [ldrhForms, List.forall_mem_cons, LoadForm.transfer, ← halfAddr_eq]
    exact ⟨fun _ => rfl, fun _ => rfl, fun _ => rfl, fun _ => rfl, fun _ => rfl, fun _ => rfl, List.forall_mem_nil _⟩
  all_goals
    repeat' refine List.forall_mem_cons.2 ⟨fun _ => rfl, ?_⟩
    exact List.forall_mem_nil _

/-- Every form of a store is the model's `storeSingle` behind the condition. -/
theorem exec_storeForm (c : Cond) (pre up wb : Bool) (rn rd : Reg) (imm12 : BitVec 12) (op : ShiftImm) (imm8 : Byte)
    (rm : Reg) : ∀ f ∈ strForms c up wb rn rd imm12 op ++ strbForms c up wb rn rd imm12 op ++
      strhForms c pre up wb rn rd imm8 rm,
    ∀ s, exec f.instr s = a32Run f.cond f.instr s (storeSingle f.kind f.rd f.rn (f.transfer s)) := by
  refine List.forall_mem_append.2 ⟨List.forall_mem_append.2 ⟨?words, ?bytes⟩, ?halves⟩
  case halves =>
    simp only [strhForms, List.forall_mem_cons, StoreForm.transfer, ← halfAddr_eq]
    exact ⟨fun _ => rfl, fun _ => rfl, List.forall_mem_nil _⟩
  all_goals
    repeat' refine List.forall_mem_cons.2 ⟨fun _ => rfl, ?_⟩
    exact List.forall_mem_nil _

/-- A store whose access left `u` writes the base back and ends. -/
theorem storeSingle_of_store {k : StoreKind} {rd : Reg} {m : Addr} {s u : State}
    (h : s.store (k.access m.addr).1 (k.access m.addr).2 (s.storeValue rd) = .ok u) (rn : Reg) :
    ∃ t, storeSingle k rd rn m s = .next t ∧
      A32Ends s u t (if m.writeback then [(rn, m.newBase)] else []) s.sw (s.cfg.cost .store) := by
  simp only [storeSingle, h, andThen_ok, writeBack_eq_writeRegs]
  exact ⟨_, rfl, a32Ends_writeRegs (store_keepsRegisters h) _ _⟩

theorem storeSingle_onlyCells {k : StoreKind} {rd rn : Reg} {m : Addr} {s t : State}
    (h : storeSingle k rd rn m s = .next t) :
    OnlyCells s t (storedCells s.cfg (k.access m.addr).1 (k.access m.addr).2) := by
  obtain ⟨u, hu, _⟩ := andThen_next h
  obtain ⟨t', ht', hends⟩ := storeSingle_of_store hu rn
  cases h.symm.trans ht'
  exact a32Ends_onlyCells hends fun c => store_get hu

/-- Settles O28: every form is `storeSingle`, which ends where its access is routed and stores nothing else. -/
theorem stores : Obligations.Stores := by
  intro c pre up wb rn rd imm12 op imm8 rm f hf
  have hexec := exec_storeForm c pre up wb rn rd imm12 op imm8 rm f hf
  refine ⟨fun s r o hc hw hr => ?_, fun s t hc ht => ?_⟩
  · obtain ⟨t, ht, hends⟩ := storeSingle_of_store (k := f.kind) (m := f.transfer s) (store_of_route hr) f.rn
    exact ⟨t, by rw [hexec, a32Run_passed hc hw, ht], hends⟩
  · rw [hexec] at ht
    exact storeSingle_onlyCells (k := f.kind) (m := f.transfer s) (a32Run_next hc ht)

/-! ## Block transfers and swaps (R380 to R383, R390, R391) -/

theorem exec_ldmOf (m : BlockMode) (c : Cond) (wb : Bool) (rn : Reg) (list : BitVec 16) (s : State) :
    exec (ldmOf m c wb rn list) s = a32Run c (ldmOf m c wb rn list) s (loadMultiple m wb rn list) := by
  cases m <;> rfl

theorem exec_stmOf (m : BlockMode) (c : Cond) (wb : Bool) (rn : Reg) (list : BitVec 16) (s : State) :
    exec (stmOf m c wb rn list) s = a32Run c (stmOf m c wb rn list) s (storeMultiple m wb rn list) := by
  cases m <;> rfl

theorem readReg_of_ne {i : Reg} (h : i ≠ 15) (s : State) : s.readReg i = s.getX i := if_neg h

theorem firstReason_eq_none_iff {l : List (Bool × DecodeReason)} : firstReason l = none ↔ ∀ p ∈ l, p.1 = false := by
  induction l with
  | nil => simp [firstReason]
  | cons p rest ih =>
    obtain ⟨bad, reason⟩ := p
    rw [List.forall_mem_cons, ← ih]
    cases bad <;> simp [firstReason]

/-- The base of an admitted block transfer is not R15 (R380). -/
theorem ne_fifteen_of_blockError {rn : Reg} {list : BitVec 16} (h : blockError rn list = none) : rn ≠ 15 :=
  beq_eq_false_iff_ne.1 (firstReason_eq_none_iff.1 h (rn == 15, .pcOperand) (by simp))

theorem ldmOf_base {m : BlockMode} {c : Cond} {wb : Bool} {rn : Reg} {list : BitVec 16}
    (h : wellFormed (ldmOf m c wb rn list) = true) : rn ≠ 15 := by
  have herr : ldmError wb rn list = none := by cases m <;> exact Option.isNone_iff_eq_none.1 h
  exact ne_fifteen_of_blockError ((Option.orElse_eq_none ..).1 herr).1

theorem stmOf_base {m : BlockMode} {c : Cond} {wb : Bool} {rn : Reg} {list : BitVec 16}
    (h : wellFormed (stmOf m c wb rn list) = true) : rn ≠ 15 := by
  have herr : stmError wb rn list = none := by cases m <;> exact Option.isNone_iff_eq_none.1 h
  exact ne_fifteen_of_blockError ((Option.orElse_eq_none ..).1 herr).1

/-- The base of an admitted swap is not R15 (R390). -/
theorem ne_fifteen_of_swapError {rn rd rm : Reg} (h : swapError rn rd rm = none) : rn ≠ 15 := by
  have hpc := firstReason_eq_none_iff.1 h (rn == 15 || rd == 15 || rm == 15, .pcOperand) (by simp)
  simp only [Bool.or_eq_false_iff, beq_eq_false_iff_ne] at hpc
  exact hpc.1.1

/-- STM whose writes left `u` writes the base back and ends. -/
theorem storeMultiple_of_storeMany {mode : BlockMode} {rn : Reg} {list : BitVec 16} {s u : State}
    (h : storeMany s (blockStart mode (s.readReg rn) list) ((registersOf list).map s.storeValue) = .ok u) (wb : Bool) :
    ∃ t, storeMultiple mode wb rn list s = .next t ∧
      A32Ends s u t (if wb then [(rn, blockNewBase mode (s.readReg rn) list)] else []) s.sw
        (s.cfg.cost (.stm (registersOf list).length)) := by
  simp only [storeMultiple, h, andThen_ok, writeBack_eq_writeRegs]
  exact ⟨_, rfl, a32Ends_writeRegs (storeMany_keepsRegisters h) _ _⟩

/-- Settles O32: the writes of a routed block, their frame, then the write-back. -/
theorem storeMultiple_completes : Obligations.StoreMultiple := by
  intro m c wb rn list s hc hw hrouted
  have hbase := readReg_of_ne (stmOf_base hw) s
  have hmany := storeMany_routed ((registersOf list).map s.storeValue) s (blockStart m (s.getX rn) list) 0
    fun j hj => by rw [Nat.zero_add]; exact hrouted j (by simpa using hj)
  rw [blockAddr_zero] at hmany
  obtain ⟨t, ht, hends⟩ := storeMultiple_of_storeMany (by rw [hbase]; exact hmany) wb
  rw [hbase] at hends
  have hexec : exec (stmOf m c wb rn list) s = .next t := by rw [exec_stmOf, a32Run_passed hc hw, ht]
  refine ⟨⟨t, hexec, hends⟩, fun t' ht' => ?_⟩
  cases hexec.symm.trans ht'
  exact a32Ends_onlyCells hends fun cell hcell => storeMany_frame _ _ _ _ hmany cell (by simpa using hcell)

theorem loadSingle_unrouted {k : LoadKind} {m : Addr} {s : State}
    (h : route s.cfg (k.access m.addr).1.toNat (k.access m.addr).2.bytes = none) (rd rn : Reg) :
    loadSingle k rd rn m s = .fault (.bus s.site (k.access m.addr).1 (k.access m.addr).2 .read) := by
  rw [loadSingle, load_of_none h, andThen_error]

theorem storeSingle_unrouted {k : StoreKind} {m : Addr} {s : State}
    (h : route s.cfg (k.access m.addr).1.toNat (k.access m.addr).2.bytes = none) (rd rn : Reg) :
    storeSingle k rd rn m s = .fault (.bus s.site (k.access m.addr).1 (k.access m.addr).2 .write) := by
  rw [storeSingle, store_of_none h, andThen_error]

theorem swap_unrouted {k : LoadKind} {rn : Reg} {s : State}
    (h : route s.cfg (k.access (s.readReg rn)).1.toNat (k.access (s.readReg rn)).2.bytes = none) (rd rm : Reg) :
    swap k rn rd rm s = .fault (.bus s.site (k.access (s.readReg rn)).1 (k.access (s.readReg rn)).2 .read) := by
  rw [swap, load_of_none h, andThen_error]

/-- Settles O29: each transfer ends in the fault of its first access that is not routed. -/
theorem transferFaults : Obligations.TransferFaults := by
  intro c pre up wb rn rd imm12 op imm8 rm
  refine ⟨fun f hf s hc hw hr => ?_, fun f hf s hc hw hr => ?_, fun m list s start j hstart hc hj hrouted hr => ⟨fun hw => ?_,
    fun hw => ?_⟩, fun s i k hik hc hw hr => ?_⟩
  · rw [exec_loadForm c pre up wb rn rd imm12 op imm8 rm f hf, a32Run_passed hc hw]
    exact loadSingle_unrouted (m := f.transfer s) hr f.rd f.rn
  · rw [exec_storeForm c pre up wb rn rd imm12 op imm8 rm f hf, a32Run_passed hc hw]
    exact storeSingle_unrouted (m := f.transfer s) hr f.rd f.rn
  · rw [exec_ldmOf, a32Run_passed hc hw, loadMultiple, readReg_of_ne (ldmOf_base hw), ← hstart,
      loadMany_stops _ s start j hj hrouted hr, andThen_error]
  · rw [exec_stmOf, a32Run_passed hc hw, storeMultiple, readReg_of_ne (stmOf_base hw), ← hstart,
      storeMany_stops _ s start j (by simpa using hj) hrouted hr, andThen_error]
  · obtain ⟨hexec, hrn⟩ : exec i s = a32Run c i s (swap k rn rd rm) ∧ rn ≠ 15 := by
      simp only [List.mem_cons, Prod.mk.injEq, List.not_mem_nil, or_false] at hik
      obtain ⟨rfl, rfl⟩ | ⟨rfl, rfl⟩ := hik <;>
        exact ⟨rfl, ne_fifteen_of_swapError (Option.isNone_iff_eq_none.1 hw)⟩
    have hbase := readReg_of_ne hrn s
    rw [hexec, a32Run_passed hc hw, swap_unrouted (by rwa [hbase]), hbase]

end Sys2Proof.Machine

namespace Sys2Proof.Machine

/-! ## The read-modify-writes of (HL) and the stack writes of N8 (R238, R423, R490, R522) -/

theorem exec_cbRotHlForms (s : State) : ∀ p ∈ cbRotHlForms, exec p.1 s = cbRotHl p.2 s := by
  intro p hp
  fin_cases hp <;> rfl

theorem exec_resHlForms (s : State) : ∀ p ∈ resHlForms, exec p.1 s = putBitHl p.2 false s := by
  intro p hp
  fin_cases hp <;> rfl

theorem exec_setHlForms (s : State) : ∀ p ∈ setHlForms, exec p.1 s = putBitHl p.2 true s := by
  intro p hp
  fin_cases hp <;> rfl

theorem exec_pushForms (s : State) : ∀ p ∈ pushForms, exec p.1 s = push p.2 s := by
  intro p hp
  fin_cases hp <;> rfl

theorem exec_callCcForms (a16 : Half) (s : State) : ∀ p ∈ callCcForms, exec (p.1 a16) s = callIf p.2 a16 s := by
  intro p hp
  fin_cases hp <;> rfl

/-- RST t calls the address `8 * t` (R522). -/
theorem exec_rstForms (s : State) : ∀ p ∈ rstForms, exec p.1 s = call (BitVec.ofNat 16 (8 * p.2)) 1 .rst s := by
  intro p hp
  fin_cases hp <;> rfl

/-- The cells a read-modify-write of (HL) may change. -/
abbrev hlCells (s : State) : List Nat := storedCells s.cfg ((s.getPair .hl).setWidth 32) .byte

/-- The cells a push may change: the high byte at SP - 1, the low byte at SP - 2 (R423). -/
abbrev pushCells (s : State) : List Nat :=
  storedCells s.cfg ((s.sp - 1).setWidth 32) .byte ++ storedCells s.cfg ((s.sp - 2).setWidth 32) .byte

theorem modifyHl_onlyCells {f : Byte → Out8} {len : Nat} {row : CostRow} {s t : State}
    (h : modifyHl f len row s = .next t) : OnlyCells s t (hlCells s) := by
  cases hr : route s.cfg (s.getPair .hl).toNat 1 with
  | none =>
    rw [modifyHl, load8_none hr] at h
    cases h
  | some place =>
    rw [modifyHl_route f len row (r := place.1) (o := place.2) hr] at h
    cases h
    exact onlyCells_of (writeByte_cfg ..) fun c hc => writeByte_frame (s := s.afterRead ..) _ hr hc

theorem push16_frame {s t : State} {v : Half} (h : s.push16 v = .ok t) :
    t.cfg = s.cfg ∧ ∀ c, c ∉ pushCells s → Memory.get t.mem c = Memory.get s.mem c := by
  unfold State.push16 at h
  split at h
  · cases h
  · next high hhigh =>
    have hcfg : high.cfg = s.cfg := (Accessed.store8 (.refl s) hhigh).cfg
    split at h
    · cases h
    · next low hlow =>
      cases h
      refine ⟨(Accessed.store8 (.refl high) hlow).cfg.trans hcfg, fun c hc => ?_⟩
      obtain ⟨hc1, hc2⟩ := not_or.1 (mt List.mem_append.2 hc)
      exact (store_get hlow (by rwa [hcfg])).trans (store_get hhigh hc1)

/-- What only pushes changes only the cells of the push. -/
theorem push16_onlyCells {s u t : State} {v : Half} (h : s.push16 v = .ok u) (hcfg : t.cfg = u.cfg) (hmem : t.mem = u.mem) :
    OnlyCells s t (pushCells s) := by
  obtain ⟨hpushed, hframe⟩ := push16_frame h
  exact onlyCells_of (hcfg.trans hpushed) fun c hc => by rw [hmem, hframe c hc]

theorem push_onlyCells {p : Pair} {s t : State} (h : push p s = .next t) : OnlyCells s t (pushCells s) := by
  obtain ⟨u, hu, hend⟩ := andThen_next h
  cases hend
  exact push16_onlyCells hu rfl rfl

theorem call_onlyCells {target : Half} {len : Nat} {row : CostRow} {s t : State} (h : call target len row s = .next t) :
    OnlyCells s t (pushCells s) := by
  obtain ⟨u, hu, hend⟩ := andThen_next h
  cases hend
  exact push16_onlyCells hu rfl rfl

/-- A CALL cc whose condition fails stores nothing (R519). -/
theorem callIf_onlyCells {cc : CC} {target : Half} {s t : State} (h : callIf cc target s = .next t) :
    OnlyCells s t (pushCells s) := by
  unfold callIf at h
  split at h
  · exact call_onlyCells h
  · cases h
    exact onlyCells_of rfl fun _ _ => rfl

/-- Settles O49: the first instructions are all `modifyHl`, the others push once or, a CALL cc that fails, not at all. -/
theorem n8StoreFrames : Obligations.N8StoreFrames := by
  intro a16 s t
  simp only [List.forall_mem_append, List.forall_mem_map, List.forall_mem_cons]
  refine ⟨⟨⟨⟨⟨?_, ?_, List.forall_mem_nil _⟩, fun p hp h => ?_⟩, fun p hp h => ?_⟩, fun p hp h => ?_⟩,
    ⟨⟨fun p hp h => ?_, ⟨?_, List.forall_mem_nil _⟩⟩, fun p hp h => ?_⟩, fun p hp h => ?_⟩
  · exact modifyHl_onlyCells (f := inc8)
  · exact modifyHl_onlyCells (f := dec8)
  · exact modifyHl_onlyCells ((exec_cbRotHlForms s p hp).symm.trans h)
  · exact modifyHl_onlyCells ((exec_resHlForms s p hp).symm.trans h)
  · exact modifyHl_onlyCells ((exec_setHlForms s p hp).symm.trans h)
  · exact push_onlyCells ((exec_pushForms s p hp).symm.trans h)
  · exact call_onlyCells (target := a16)
  · exact callIf_onlyCells ((exec_callCcForms a16 s p hp).symm.trans h)
  · exact call_onlyCells ((exec_rstForms s p hp).symm.trans h)

end Sys2Proof.Machine

namespace Sys2Proof.Machine

/-! ## Words and their fields (R17, R171) -/

/-- A field read where another was placed that begins at or above its lowest bit. -/
theorem fld_put_above {n : Nat} (lo len at' : Nat) (v : BitVec n) (h : lo ≤ at') (h' : lo + len ≤ 32) :
    fld lo len (put at' v) = v.setWidth len <<< (at' - lo) := by
  refine BitVec.eq_of_getLsbD_eq fun i hi => ?_
  have hword : lo + i < 32 := by omega
  rw [fld_getLsbD, put_getLsbD, BitVec.getLsbD_shiftLeft, BitVec.getLsbD_setWidth]
  rcases Nat.lt_or_ge (lo + i) at' with hlt | hge
  · simp [show i < at' - lo by omega, Nat.not_le.2 hlt]
  · simp [hi, hword, hge, show ¬ i < at' - lo by omega, show i - (at' - lo) = lo + i - at' by omega,
      show lo + i - at' < len by omega]

/-- Any field of a placed value: nothing where they do not meet, else the bits they share. -/
@[simp] theorem fld_put {n : Nat} (lo len at' : Nat) (v : BitVec n) (h : lo + len ≤ 32) : fld lo len (put at' v) =
    if lo + len ≤ at' ∨ at' + n ≤ lo then 0 else if at' ≤ lo then v.extractLsb' (lo - at') len
      else v.setWidth len <<< (at' - lo) := by
  split
  case isTrue hapart => exact fld_put_disjoint lo len at' v hapart
  case isFalse =>
    split
    case isTrue hle => exact fld_put_inside lo len at' v hle h
    case isFalse hlt => exact fld_put_above lo len at' v (Nat.le_of_not_le hlt) h

/-- A field of a field. -/
theorem extractLsb'_fld {lo len a n : Nat} (h : a + n ≤ len) (w : Word) :
    (fld lo len w).extractLsb' a n = fld (lo + a) n w := by
  refine BitVec.eq_of_getLsbD_eq fun i hi => ?_
  rw [BitVec.getLsbD_extractLsb', fld_getLsbD, fld_getLsbD]
  simp [show a + i < len by omega, Nat.add_assoc]

/-- Neighbouring fields. -/
theorem fld_append (lo m n : Nat) (w : Word) : fld (lo + m) n w ++ fld lo m w = fld lo (n + m) w :=
  BitVec.extractLsb'_append_extractLsb'_eq_extractLsb' rfl

/-- A word read field by field: `v` and `w` agree in the fields of the given widths from bit `lo` up. -/
def FieldsAgree (v w : Word) : Nat → List Nat → Prop
  | _, [] => True
  | lo, n :: rest => fld lo n v = fld lo n w ∧ FieldsAgree v w (lo + n) rest

theorem fieldsAgree_getLsbD {v w : Word} {lo : Nat} {widths : List Nat} (h : FieldsAgree v w lo widths) {i : Nat}
    (hlo : lo ≤ i) (hi : i < lo + widths.sum) : v.getLsbD i = w.getLsbD i := by
  induction widths generalizing lo with
  | nil => rw [List.sum_nil] at hi; omega
  | cons n rest ih =>
    obtain ⟨hfield, hrest⟩ := h
    rcases Nat.lt_or_ge i (lo + n) with hlt | hge
    · have hbit := congrArg (fun f : BitVec n => f.getLsbD (i - lo)) hfield
      simp only [fld_getLsbD, Nat.add_sub_cancel' hlo] at hbit
      simpa [show i - lo < n by omega] using hbit
    · rw [List.sum_cons] at hi
      exact ih hrest hge (by omega)

/-- Two words that agree in fields that make up the word are equal. -/
theorem eq_of_fieldsAgree {v w : Word} (widths : List Nat) (hsum : widths.sum = 32) (h : FieldsAgree v w 0 widths) :
    v = w :=
  BitVec.eq_of_getLsbD_eq fun _ hi => fieldsAgree_getLsbD h (Nat.zero_le _) (by rwa [Nat.zero_add, hsum])

/-! ## Codes (R161, R171) -/

@[simp] theorem code_condOfCode (k : BitVec 4) : (Cond.ofCode k).code = k := by
  revert k; decide

@[simp] theorem condOfCode_code (c : Cond) : Cond.ofCode c.code = c := by cases c <;> rfl

@[simp] theorem code_shiftKindOfCode (k : BitVec 2) : (ShiftKind.ofCode k).code = k := by
  revert k; decide

@[simp] theorem shiftKindOfCode_code (k : ShiftKind) : ShiftKind.ofCode k.code = k := by cases k <;> rfl

@[simp] theorem code_dpOpOfCode (k : BitVec 4) : (DpOp.ofCode k).code = k := by
  revert k; decide

@[simp] theorem dpOpOfCode_code (op : DpOp) : DpOp.ofCode op.code = op := by cases op <;> rfl

/-- The comparisons are the operations with bits 3:2 of the opcode 10 (R171). -/
theorem isCompare_iff_code (op : DpOp) : op.isCompare = true ↔ op.code.extractLsb' 2 2 = 0b10#2 := by
  cases op <;> decide

/-! ## Flags of a word -/

@[simp] theorem ofBool_flag (i : Nat) (w : Word) : BitVec.ofBool (flag i w) = fld i 1 w := by
  have hbit : ∀ b : BitVec 1, BitVec.ofBool (b == 1) = b := by decide
  exact hbit _

theorem flag_eq_of_fld {i : Nat} {w : Word} {b : Bool} (h : fld i 1 w = BitVec.ofBool b) : flag i w = b := by
  rw [flag, h]
  cases b <;> rfl

/-- A flag inside a field. -/
theorem flag_of_fld (lo len a : Nat) (h : a < len) (w : Word) : flag (lo + a) w = (fld lo len w).getLsbD a := by
  have hbit : ∀ b : BitVec 1, (b == 1) = b.getLsbD 0 := by decide
  rw [flag, hbit, fld_getLsbD, fld_getLsbD]
  simp [h]

/-! ## The classes of words (R170) -/

/-- What each class says of the fields of a word. -/
def ClassFields (w : Word) : Class → Prop
  | .multiply => fld 25 3 w = 0b000#3 ∧ fld 7 1 w = 1#1 ∧ fld 5 2 w = 0b00#2 ∧ fld 4 1 w = 1#1 ∧ fld 22 3 w = 0b000#3
  | .multiplyLong =>
    fld 25 3 w = 0b000#3 ∧ fld 7 1 w = 1#1 ∧ fld 5 2 w = 0b00#2 ∧ fld 4 1 w = 1#1 ∧ fld 23 2 w = 0b01#2
  | .swap =>
    fld 25 3 w = 0b000#3 ∧ fld 7 1 w = 1#1 ∧ fld 5 2 w = 0b00#2 ∧ fld 4 1 w = 1#1 ∧ fld 23 2 w = 0b10#2 ∧
      fld 20 2 w = 0b00#2
  | .halfwordTransfer =>
    fld 25 3 w = 0b000#3 ∧ fld 7 1 w = 1#1 ∧ fld 5 2 w ≠ 0b00#2 ∧ fld 4 1 w = 1#1 ∧
      (fld 20 1 w = 0#1 → fld 5 2 w = 0b01#2)
  | .mrs =>
    fld 25 3 w = 0b000#3 ∧ fld 23 2 w = 0b10#2 ∧ fld 20 1 w = 0#1 ∧ fld 4 4 w = 0b0000#4 ∧ fld 21 1 w = 0#1
  | .msrReg =>
    fld 25 3 w = 0b000#3 ∧ fld 23 2 w = 0b10#2 ∧ fld 20 1 w = 0#1 ∧ fld 4 4 w = 0b0000#4 ∧ fld 21 1 w = 1#1
  | .bx =>
    fld 25 3 w = 0b000#3 ∧ fld 23 2 w = 0b10#2 ∧ fld 20 1 w = 0#1 ∧ fld 4 4 w = 0b0001#4 ∧ fld 21 2 w = 0b01#2
  | .dataProcessing =>
    (fld 25 3 w = 0b000#3 ∧ ¬(fld 7 1 w = 1#1 ∧ fld 4 1 w = 1#1) ∨ fld 25 3 w = 0b001#3) ∧
      ¬(fld 23 2 w = 0b10#2 ∧ fld 20 1 w = 0#1)
  | .msrImm => fld 25 3 w = 0b001#3 ∧ fld 23 2 w = 0b10#2 ∧ fld 20 1 w = 0#1 ∧ fld 21 1 w = 1#1
  | .singleTransfer => fld 25 3 w = 0b010#3 ∨ fld 25 3 w = 0b011#3 ∧ fld 4 1 w = 0#1
  | .blockTransfer => fld 25 3 w = 0b100#3
  | .branch => fld 25 3 w = 0b101#3
  | .unrecognized => True

theorem eq_zero_of_ne_one {b : BitVec 1} (h : b ≠ 1#1) : b = 0#1 := by
  revert b; decide

theorem eq_one_of_ne_zero {b : BitVec 1} (h : b ≠ 0#1) : b = 1#1 := by
  revert b; decide

theorem toNat_fld_eq {lo len : Nat} {w : Word} {n : Nat} (h : (fld lo len w).toNat = n) : fld lo len w = BitVec.ofNat len n := by
  rw [← h, BitVec.ofNat_toNat, BitVec.setWidth_eq]

theorem classFields_classOf (w : Word) : ClassFields w (classOf w) := by
  unfold classOf
  split
  case h_1 h =>
    have h := toNat_fld_eq h
    split
    case isTrue hx =>
      unfold classExtra
      split_ifs <;> simp_all [ClassFields]
    case isFalse hx =>
      unfold classMisc
      split_ifs <;> simp_all [ClassFields]
  case h_2 h =>
    have h := toNat_fld_eq h
    split_ifs <;> simp_all [ClassFields]
  case h_3 h => exact .inl (toNat_fld_eq h)
  case h_4 h =>
    split
    case isTrue hx => trivial
    case isFalse hx => exact .inr ⟨toNat_fld_eq h, eq_zero_of_ne_one hx⟩
  case h_5 h => exact toNat_fld_eq h
  case h_6 h => exact toNat_fld_eq h
  case h_7 => trivial

/-! ## The decoder's choices as functions of the bits that make them (R171) -/

/-- Format ML: the instruction U and A choose. -/
def mulLong (signed acc : Bool) (c : Cond) (sf : Bool) (rdHi rdLo rs rm : Reg) : Instr :=
  match signed, acc with
  | false, false => .umull c sf rdHi rdLo rs rm
  | false, true => .umlal c sf rdHi rdLo rs rm
  | true, false => .smull c sf rdHi rdLo rs rm
  | true, true => .smlal c sf rdHi rdLo rs rm

theorem decodeMultiplyLong_eq (w : Word) : decodeMultiplyLong w =
    mulLong (flag 22 w) (flag 21 w) (condOf w) (flag 20 w) (fld 16 4 w) (fld 12 4 w) (fld 8 4 w) (fld 0 4 w) := rfl

theorem mulLong_word (signed acc : Bool) (c : Cond) (sf : Bool) (rdHi rdLo rs rm : Reg) :
    (mulLong signed acc c sf rdHi rdLo rs rm).word =
      encMul (0b00001#5 ++ BitVec.ofBool signed ++ BitVec.ofBool acc) c sf rdHi rdLo rs rm := by
  unfold mulLong
  split <;> rfl

/-- Format LS with an immediate offset: the instruction L, B, P and W choose. -/
def singleImm (load byte p w : Bool) (c : Cond) (up : Bool) (rn rd : Reg) (imm : BitVec 12) : Instr :=
  match load, byte, p, w with
  | false, false, true, wb => .strImmPre c up wb rn rd imm
  | false, false, false, false => .strImmPost c up rn rd imm
  | false, false, false, true => .strtImm c up rn rd imm
  | false, true, true, wb => .strbImmPre c up wb rn rd imm
  | false, true, false, false => .strbImmPost c up rn rd imm
  | false, true, false, true => .strbtImm c up rn rd imm
  | true, false, true, wb => .ldrImmPre c up wb rn rd imm
  | true, false, false, false => .ldrImmPost c up rn rd imm
  | true, false, false, true => .ldrtImm c up rn rd imm
  | true, true, true, wb => .ldrbImmPre c up wb rn rd imm
  | true, true, false, false => .ldrbImmPost c up rn rd imm
  | true, true, false, true => .ldrbtImm c up rn rd imm

theorem decodeSingleImm_eq (w : Word) : decodeSingleImm w = singleImm (flag 20 w) (flag 22 w) (flag 24 w) (flag 21 w)
    (condOf w) (flag 23 w) (fld 16 4 w) (fld 12 4 w) (fld 0 12 w) := rfl

theorem singleImm_word (load byte p w : Bool) (c : Cond) (up : Bool) (rn rd : Reg) (imm : BitVec 12) :
    (singleImm load byte p w c up rn rd imm).word = encSingle false p byte w load c up rn rd (put 0 imm) := by
  unfold singleImm
  split <;> rfl

/-- Format LS with a register offset: the instruction L, B, P and W choose. -/
def singleReg (load byte p w : Bool) (c : Cond) (up : Bool) (rn rd : Reg) (o : ShiftImm) : Instr :=
  match load, byte, p, w with
  | false, false, true, wb => .strRegPre c up wb rn rd o
  | false, false, false, false => .strRegPost c up rn rd o
  | false, false, false, true => .strtReg c up rn rd o
  | false, true, true, wb => .strbRegPre c up wb rn rd o
  | false, true, false, false => .strbRegPost c up rn rd o
  | false, true, false, true => .strbtReg c up rn rd o
  | true, false, true, wb => .ldrRegPre c up wb rn rd o
  | true, false, false, false => .ldrRegPost c up rn rd o
  | true, false, false, true => .ldrtReg c up rn rd o
  | true, true, true, wb => .ldrbRegPre c up wb rn rd o
  | true, true, false, false => .ldrbRegPost c up rn rd o
  | true, true, false, true => .ldrbtReg c up rn rd o

theorem decodeSingleReg_eq (w : Word) : decodeSingleReg w = singleReg (flag 20 w) (flag 22 w) (flag 24 w) (flag 21 w)
    (condOf w) (flag 23 w) (fld 16 4 w) (fld 12 4 w) (shiftImmOf w) := rfl

theorem singleReg_word (load byte p w : Bool) (c : Cond) (up : Bool) (rn rd : Reg) (o : ShiftImm) :
    (singleReg load byte p w c up rn rd o).word = encSingle true p byte w load c up rn rd o.enc := by
  unfold singleReg
  split <;> rfl

/-- Format H with an immediate offset: the instruction L and S:H choose. -/
def halfImm (load : Bool) (sh : BitVec 2) (c : Cond) (p u wb : Bool) (rn rd : Reg) (imm : Byte) : Instr :=
  match load, sh.toNat with
  | false, _ => .strhImm c p u wb rn rd imm
  | true, 0b01 => .ldrhImm c p u wb rn rd imm
  | true, 0b10 => .ldrsbImm c p u wb rn rd imm
  | true, _ => .ldrshImm c p u wb rn rd imm

/-- Format H with a register offset: the instruction L and S:H choose. -/
def halfReg (load : Bool) (sh : BitVec 2) (c : Cond) (p u wb : Bool) (rn rd rm : Reg) : Instr :=
  match load, sh.toNat with
  | false, _ => .strhReg c p u wb rn rd rm
  | true, 0b01 => .ldrhReg c p u wb rn rd rm
  | true, 0b10 => .ldrsbReg c p u wb rn rd rm
  | true, _ => .ldrshReg c p u wb rn rd rm

theorem decodeHalfword_eq (w : Word) : decodeHalfword w =
    if flag 22 w then halfImm (flag 20 w) (fld 5 2 w) (condOf w) (flag 24 w) (flag 23 w) (flag 21 w) (fld 16 4 w)
      (fld 12 4 w) (fld 8 4 w ++ fld 0 4 w)
    else halfReg (flag 20 w) (fld 5 2 w) (condOf w) (flag 24 w) (flag 23 w) (flag 21 w) (fld 16 4 w) (fld 12 4 w)
      (fld 0 4 w) := by
  unfold decodeHalfword halfImm halfReg
  generalize flag 20 w = load, (fld 5 2 w).toNat = sh
  cases flag 22 w <;> split <;> simp_all

/-- The pairs of L and S:H that R170 admits in format H. -/
def HalfCode (load : Bool) (sh : BitVec 2) : Prop := sh ≠ 0b00#2 ∧ (load = false → sh = 0b01#2)

theorem halfCode_cases {load : Bool} {sh : BitVec 2} (h : HalfCode load sh) :
    load = false ∧ sh = 0b01#2 ∨ load = true ∧ (sh = 0b01#2 ∨ sh = 0b10#2 ∨ sh = 0b11#2) := by
  revert load sh
  unfold HalfCode
  decide

theorem halfImm_word {load : Bool} {sh : BitVec 2} (h : HalfCode load sh) (c : Cond) (p u wb : Bool) (rn rd : Reg)
    (imm : Byte) : (halfImm load sh c p u wb rn rd imm).word = encHalf true load sh c p u wb rn rd (encImm8 imm) := by
  obtain ⟨rfl, rfl⟩ | ⟨rfl, rfl | rfl | rfl⟩ := halfCode_cases h <;> rfl

theorem halfReg_word {load : Bool} {sh : BitVec 2} (h : HalfCode load sh) (c : Cond) (p u wb : Bool) (rn rd rm : Reg) :
    (halfReg load sh c p u wb rn rd rm).word = encHalf false load sh c p u wb rn rd (put 0 rm) := by
  obtain ⟨rfl, rfl⟩ | ⟨rfl, rfl | rfl | rfl⟩ := halfCode_cases h <;> rfl

/-- Format LM: the instruction L, P and U choose (R381). -/
def blockOf (load p u : Bool) (c : Cond) (wb : Bool) (rn : Reg) (list : BitVec 16) : Instr :=
  match load, p, u with
  | false, false, false => .stmda c wb rn list
  | false, false, true => .stmia c wb rn list
  | false, true, false => .stmdb c wb rn list
  | false, true, true => .stmib c wb rn list
  | true, false, false => .ldmda c wb rn list
  | true, false, true => .ldmia c wb rn list
  | true, true, false => .ldmdb c wb rn list
  | true, true, true => .ldmib c wb rn list

theorem decodeBlock_eq (w : Word) : decodeBlock w =
    blockOf (flag 20 w) (flag 24 w) (flag 23 w) (condOf w) (flag 21 w) (fld 16 4 w) (fld 0 16 w) := rfl

theorem blockOf_word (load p u : Bool) (c : Cond) (wb : Bool) (rn : Reg) (list : BitVec 16) :
    (blockOf load p u c wb rn list).word = encBlock load p u c wb rn list := by
  unfold blockOf
  split <;> rfl

/-- What the fixed fields of R185 and S = 1 of the comparisons ask of the operands of a data-processing instruction. -/
structure DpOperands (op : DpOp) (sf : Bool) (rn rd : Reg) : Prop where
  compare : op.isCompare = true → sf = true ∧ rd = 0
  move : op.isMove = true → rn = 0

/-- The fixed fields alone (R185). -/
theorem DpOperands.fixedFields {op : DpOp} {sf : Bool} {rn rd : Reg} (h : DpOperands op sf rn rd) :
    (op.isCompare = true → rd = 0) ∧ (op.isMove = true → rn = 0) :=
  ⟨fun hop => (h.compare hop).2, h.move⟩

/-- The word of each form of a data-processing instruction. -/
theorem dp_word {op : DpOp} {sf : Bool} {rn rd : Reg} (h : DpOperands op sf rn rd) (c : Cond) :
    (∀ o, (dpImm c sf rn rd o op).word = encDp op true c sf rn rd o.enc) ∧
    (∀ o, (dpShift c sf rn rd o op).word = encDp op false c sf rn rd o.enc) ∧
    (∀ o, (dpShiftReg c sf rn rd o op).word = encDp op false c sf rn rd o.enc) := by
  obtain ⟨hcompare, hmove⟩ := h
  cases op
  case tst | teq | cmp | cmn =>
    obtain ⟨rfl, rfl⟩ := hcompare rfl
    exact ⟨fun _ => rfl, fun _ => rfl, fun _ => rfl⟩
  case mov | mvn =>
    cases hmove rfl
    exact ⟨fun _ => rfl, fun _ => rfl, fun _ => rfl⟩
  all_goals exact ⟨fun _ => rfl, fun _ => rfl, fun _ => rfl⟩

/-! ## A word is the encoding of its fields (R171, R185) -/

theorem put_zero_append {m n : Nat} (v : BitVec n) : put 0 ((0 : BitVec m) ++ v) = put 0 v := by
  refine BitVec.eq_of_getLsbD_eq fun i _ => ?_
  rw [put_getLsbD, put_getLsbD, Nat.sub_zero, BitVec.getLsbD_append]
  rcases Nat.lt_or_ge i n with hlt | hge
  · rw [if_pos hlt]
  · rw [if_neg (Nat.not_lt.2 hge), BitVec.getLsbD_of_ge v _ hge, BitVec.ofNat_eq_ofNat, BitVec.getLsbD_zero]

theorem low_append_nibble (hi lo : BitVec 4) : (hi ++ lo : Byte).extractLsb' 0 4 = lo := by
  simpa using BitVec.extractLsb'_append_eq_of_add_le (xhi := hi) (xlo := lo) (start := 0) (len := 4) (by decide)

theorem high_append_nibble (hi lo : BitVec 4) : (hi ++ lo : Byte).extractLsb' 4 4 = hi := by
  simpa using BitVec.extractLsb'_append_eq_of_le (xhi := hi) (xlo := lo) (start := 4) (len := 4) (by decide)

theorem append_nibbles (b : Byte) : b.extractLsb' 4 4 ++ b.extractLsb' 0 4 = b := by
  simpa using BitVec.extractLsb'_append_extractLsb'_eq_extractLsb' (x := b) (start₂ := 4) (len₂ := 4) (start₁ := 0)
    (len₁ := 4) (by decide)

theorem rotImmOf_enc (w : Word) : (rotImmOf w).enc = put 0 (fld 0 12 w) := by
  refine eq_of_fieldsAgree [8, 4, 20] rfl ?_
  simp [FieldsAgree, RotImm.enc, rotImmOf, extractLsb'_fld]

theorem shiftImmOf_enc {w : Word} (h : fld 4 1 w = 0#1) : (shiftImmOf w).enc = put 0 (fld 0 12 w) := by
  refine eq_of_fieldsAgree [4, 1, 2, 5, 20] rfl ?_
  simp [FieldsAgree, ShiftImm.enc, shiftImmOf, extractLsb'_fld, h]

theorem shiftRegOf_enc {w : Word} (h : fld 7 1 w = 0#1) (h' : fld 4 1 w = 1#1) :
    (shiftRegOf w).enc = put 0 (fld 0 12 w) := by
  refine eq_of_fieldsAgree [4, 1, 2, 1, 4, 20] rfl ?_
  simp [FieldsAgree, ShiftReg.enc, shiftRegOf, extractLsb'_fld, h, h']

theorem encDp_fields {w : Word} (h : fld 26 2 w = 0b00#2) :
    encDp (.ofCode (fld 21 4 w)) (flag 25 w) (condOf w) (flag 20 w) (fld 16 4 w) (fld 12 4 w) (put 0 (fld 0 12 w)) = w := by
  refine eq_of_fieldsAgree [12, 4, 4, 1, 4, 1, 2, 4] rfl ?_
  simp [FieldsAgree, encDp, putBit, condOf, h]

theorem encB_fields {w : Word} (h : fld 25 3 w = 0b101#3) : encB (flag 24 w) (condOf w) (fld 0 24 w) = w := by
  refine eq_of_fieldsAgree [24, 1, 3, 4] rfl ?_
  simp [FieldsAgree, encB, putBit, condOf, h]

theorem encBx_fields {w : Word} (h : ClassFields w .bx) (hsbo : fld 8 12 w = 0xFFF) :
    encBx (condOf w) (fld 0 4 w) = w := by
  obtain ⟨h25, h23, h20, h4, h21⟩ := h
  refine eq_of_fieldsAgree [4, 4, 12, 1, 2, 2, 3, 4] rfl ?_
  simp [FieldsAgree, encBx, condOf, h25, h23, h20, h4, h21, hsbo]

theorem encMrs_fields {w : Word} (h : ClassFields w .mrs) (hr : fld 22 1 w = 0#1) (hsbo : fld 16 4 w = 0xF)
    (hsbz : fld 0 12 w = 0) : encMrs (condOf w) (fld 12 4 w) = w := by
  obtain ⟨h25, h23, h20, _, h21⟩ := h
  refine eq_of_fieldsAgree [12, 4, 4, 1, 1, 1, 2, 3, 4] rfl ?_
  simp [FieldsAgree, encMrs, condOf, h25, h23, h20, h21, hr, hsbo, hsbz]

/-- Bits 27:23 of both forms of MSR, R and bits 21:20 below them (R171). -/
theorem encMsr_fields {w : Word} (h20 : fld 20 1 w = 0#1) (h21 : fld 21 1 w = 1#1) (hr : fld 22 1 w = 0#1)
    (hsbo : fld 12 4 w = 0xF) : encMsr (fld 23 5 w) (condOf w) (fld 16 4 w) (put 0 (fld 0 12 w)) = w := by
  refine eq_of_fieldsAgree [12, 4, 4, 1, 1, 1, 5, 4] rfl ?_
  simp [FieldsAgree, encMsr, condOf, h20, h21, hr, hsbo]

theorem encMul_fields {w : Word} (h7 : fld 7 1 w = 1#1) (h5 : fld 5 2 w = 0b00#2) (h4 : fld 4 1 w = 1#1) :
    encMul (fld 21 7 w) (condOf w) (flag 20 w) (fld 16 4 w) (fld 12 4 w) (fld 8 4 w) (fld 0 4 w) = w := by
  refine eq_of_fieldsAgree [4, 1, 2, 1, 4, 4, 4, 1, 7, 4] rfl ?_
  simp [FieldsAgree, encMul, putBit, condOf, h7, h5, h4]

theorem encSwap_fields {w : Word} (h : ClassFields w .swap) (hsbz : fld 8 4 w = 0) :
    encSwap (flag 22 w) (condOf w) (fld 16 4 w) (fld 12 4 w) (fld 0 4 w) = w := by
  obtain ⟨h25, h7, h5, h4, h23, h20⟩ := h
  refine eq_of_fieldsAgree [4, 1, 2, 1, 4, 4, 4, 2, 1, 2, 3, 4] rfl ?_
  simp [FieldsAgree, encSwap, putBit, condOf, h25, h7, h5, h4, h23, h20, hsbz]

theorem encSingle_fields {w : Word} (h : fld 26 2 w = 0b01#2) :
    encSingle (flag 25 w) (flag 24 w) (flag 22 w) (flag 21 w) (flag 20 w) (condOf w) (flag 23 w) (fld 16 4 w)
      (fld 12 4 w) (put 0 (fld 0 12 w)) = w := by
  refine eq_of_fieldsAgree [12, 4, 4, 1, 1, 1, 1, 1, 1, 2, 4] rfl ?_
  simp [FieldsAgree, encSingle, putBit, condOf, h]

theorem encHalf_fields_imm {w : Word} (h : ClassFields w .halfwordTransfer) (hi : flag 22 w = true) :
    encHalf true (flag 20 w) (fld 5 2 w) (condOf w) (flag 24 w) (flag 23 w) (flag 21 w) (fld 16 4 w) (fld 12 4 w)
      (encImm8 (fld 8 4 w ++ fld 0 4 w)) = w := by
  obtain ⟨h25, h7, _, h4, _⟩ := h
  rw [← hi]
  refine eq_of_fieldsAgree [4, 1, 2, 1, 4, 4, 4, 1, 1, 1, 1, 1, 3, 4] rfl ?_
  simp [FieldsAgree, encHalf, encImm8, putBit, condOf, low_append_nibble, high_append_nibble, h25, h7, h4]

theorem encHalf_fields_reg {w : Word} (h : ClassFields w .halfwordTransfer) (hi : flag 22 w = false) (hsbz : fld 8 4 w = 0) :
    encHalf false (flag 20 w) (fld 5 2 w) (condOf w) (flag 24 w) (flag 23 w) (flag 21 w) (fld 16 4 w) (fld 12 4 w)
      (put 0 (fld 0 4 w)) = w := by
  obtain ⟨h25, h7, _, h4, _⟩ := h
  rw [← hi]
  refine eq_of_fieldsAgree [4, 1, 2, 1, 4, 4, 4, 1, 1, 1, 1, 1, 3, 4] rfl ?_
  simp [FieldsAgree, encHalf, putBit, condOf, h25, h7, h4, hsbz]

theorem encBlock_fields {w : Word} (h : fld 25 3 w = 0b100#3) (hs : fld 22 1 w = 0#1) :
    encBlock (flag 20 w) (flag 24 w) (flag 23 w) (condOf w) (flag 21 w) (fld 16 4 w) (fld 0 16 w) = w := by
  refine eq_of_fieldsAgree [16, 4, 1, 1, 1, 1, 1, 3, 4] rfl ?_
  simp [FieldsAgree, encBlock, putBit, condOf, h, hs]

/-! ## What the decoder reads encodes to the word (R170, R171, R185, R186) -/

theorem decodeWord_eq_ok {w : Word} {i : Instr} : decodeWord w = .ok i ↔ decodeA32 w = some i ∧ formatError w = none := by
  unfold decodeWord
  cases decodeA32 w with
  | none => simp
  | some j => cases formatError w <;> simp

theorem fld_inside_of {lo len : Nat} {w : Word} {v : BitVec len} (h : fld lo len w = v) (a n : Nat)
    (han : a + n ≤ len) : fld (lo + a) n w = v.extractLsb' a n := by
  rw [← h, extractLsb'_fld han]

theorem flag_inside_of {lo len : Nat} {w : Word} {v : BitVec len} (h : fld lo len w = v) (a : Nat) (ha : a < len) :
    flag (lo + a) w = v.getLsbD a := by
  rw [← h, flag_of_fld lo len a ha]

/-- The class and the fixed fields of a data-processing word as conditions on its operands. -/
theorem dpOperands_of_formatError {w : Word} (hc : classOf w = .dataProcessing) (hf : formatError w = none) :
    DpOperands (.ofCode (fld 21 4 w)) (flag 20 w) (fld 16 4 w) (fld 12 4 w) := by
  obtain ⟨_, hmisc⟩ : ClassFields w .dataProcessing := hc ▸ classFields_classOf w
  simp only [formatError, hc, firstReason_eq_none_iff, List.forall_mem_singleton, Bool.or_eq_false_iff,
    Bool.and_eq_false_imp, bne_eq_false_iff_eq] at hf
  obtain ⟨hcompare, hmove⟩ := hf
  refine ⟨fun hop => ⟨flag_eq_of_fld ?_, hcompare hop⟩, hmove⟩
  rw [isCompare_iff_code, code_dpOpOfCode, extractLsb'_fld (by decide)] at hop
  exact eq_one_of_ne_zero fun h20 => hmisc ⟨hop, h20⟩

theorem word_decodeDataProcessing {w : Word} (hc : classOf w = .dataProcessing) (hf : formatError w = none) :
    (decodeDataProcessing w).word = w := by
  obtain ⟨himm, hshift, hshiftReg⟩ := dp_word (dpOperands_of_formatError hc hf) (condOf w)
  obtain ⟨⟨h25, h7⟩ | h25, _⟩ : ClassFields w .dataProcessing := hc ▸ classFields_classOf w
  · have hi : flag 25 w = false := flag_inside_of h25 0 (by decide)
    have hfields := encDp_fields (fld_inside_of h25 1 2 (by decide))
    rw [hi] at hfields
    by_cases h4 : fld 4 1 w = 1#1
    · rw [decodeDataProcessing, if_neg (by simp [hi]), if_pos (flag_eq_of_fld h4), hshiftReg,
        shiftRegOf_enc (eq_zero_of_ne_one fun h => h7 ⟨h, h4⟩) h4, hfields]
    · rw [decodeDataProcessing, if_neg (by simp [hi]), if_neg (by simp [flag, h4]), hshift,
        shiftImmOf_enc (eq_zero_of_ne_one h4), hfields]
  · have hi : flag 25 w = true := flag_inside_of h25 0 (by decide)
    have hfields := encDp_fields (fld_inside_of h25 1 2 (by decide))
    rw [hi] at hfields
    rw [decodeDataProcessing, if_pos hi, himm, rotImmOf_enc, hfields]

theorem word_decodeMultiply {w : Word} (hc : classOf w = .multiply) (hf : formatError w = none) :
    (decodeMultiply w).word = w := by
  obtain ⟨h25, h7, h5, h4, h22⟩ : ClassFields w .multiply := hc ▸ classFields_classOf w
  have htop : fld 21 7 w = 0b000000#6 ++ BitVec.ofBool (flag 21 w) := by
    have h22' : fld 22 6 w = 0b000000#6 := by rw [← fld_append 22 3 3, h25, h22]; rfl
    rw [← h22', ofBool_flag, fld_append 21 1 6]
  have hfields := encMul_fields h7 h5 h4
  rw [htop] at hfields
  unfold decodeMultiply
  cases hacc : flag 21 w with
  | true =>
    rw [hacc] at hfields
    exact hfields
  | false =>
    have hsbz : fld 12 4 w = 0 := by simpa [formatError, hc, firstReason_eq_none_iff, hacc] using hf
    rw [hacc, hsbz] at hfields
    exact hfields

theorem word_decodeMultiplyLong {w : Word} (hc : classOf w = .multiplyLong) : (decodeMultiplyLong w).word = w := by
  obtain ⟨h25, h7, h5, h4, h23⟩ : ClassFields w .multiplyLong := hc ▸ classFields_classOf w
  have htop : fld 21 7 w = 0b00001#5 ++ BitVec.ofBool (flag 22 w) ++ BitVec.ofBool (flag 21 w) := by
    have h23' : fld 23 5 w = 0b00001#5 := by rw [← fld_append 23 2 3, h25, h23]; rfl
    rw [← h23', ofBool_flag, ofBool_flag, fld_append 22 1 5, fld_append 21 1 6]
  rw [decodeMultiplyLong_eq, mulLong_word, ← htop, encMul_fields h7 h5 h4]

theorem word_decodeSwap {w : Word} (hc : classOf w = .swap) (hf : formatError w = none) : (decodeSwap w).word = w := by
  have hsbz : fld 8 4 w = 0 := by simpa [formatError, hc, firstReason_eq_none_iff] using hf
  have hfields := encSwap_fields (hc ▸ classFields_classOf w) hsbz
  unfold decodeSwap
  split <;> rename_i hb <;> simp only [hb] at hfields <;> exact hfields

theorem word_decodeSingle {w : Word} (hc : classOf w = .singleTransfer) : (decodeSingle w).word = w := by
  obtain h25 | ⟨h25, h4⟩ : ClassFields w .singleTransfer := hc ▸ classFields_classOf w
  · have hi : flag 25 w = false := flag_inside_of h25 0 (by decide)
    have hfields := encSingle_fields (fld_inside_of h25 1 2 (by decide))
    rw [hi] at hfields
    rw [decodeSingle, if_neg (by simp [hi]), decodeSingleImm_eq, singleImm_word, hfields]
  · have hi : flag 25 w = true := flag_inside_of h25 0 (by decide)
    have hfields := encSingle_fields (fld_inside_of h25 1 2 (by decide))
    rw [hi] at hfields
    rw [decodeSingle, if_pos hi, decodeSingleReg_eq, singleReg_word, shiftImmOf_enc h4, hfields]

theorem word_decodeHalfword {w : Word} (hc : classOf w = .halfwordTransfer) (hf : formatError w = none) :
    (decodeHalfword w).word = w := by
  have hclass : ClassFields w .halfwordTransfer := hc ▸ classFields_classOf w
  have hcode : HalfCode (flag 20 w) (fld 5 2 w) := by
    obtain ⟨_, _, h5, _, h20⟩ := hclass
    exact ⟨h5, fun hload => h20 (by rw [← ofBool_flag, hload]; rfl)⟩
  rw [decodeHalfword_eq]
  cases hi : flag 22 w with
  | true => rw [if_pos rfl, halfImm_word hcode, encHalf_fields_imm hclass hi]
  | false =>
    have hsbz : fld 8 4 w = 0 := by simpa [formatError, hc, firstReason_eq_none_iff, hi] using hf
    rw [if_neg (by decide), halfReg_word hcode, encHalf_fields_reg hclass hi hsbz]

theorem word_decodeBlock {w : Word} (hc : classOf w = .blockTransfer) (hf : formatError w = none) :
    (decodeBlock w).word = w := by
  have h25 : ClassFields w .blockTransfer := hc ▸ classFields_classOf w
  have hs : flag 22 w = false := by simpa [formatError, hc, firstReason_eq_none_iff] using hf
  rw [decodeBlock_eq, blockOf_word, encBlock_fields h25 (by rw [← ofBool_flag, hs]; rfl)]

theorem word_mrs {w : Word} (hc : classOf w = .mrs) (hf : formatError w = none) :
    (Instr.mrs (condOf w) (fld 12 4 w)).word = w := by
  obtain ⟨hr, hsbo, hsbz⟩ : flag 22 w = false ∧ fld 16 4 w = 0xF ∧ fld 0 12 w = 0 := by
    simpa [formatError, hc, firstReason_eq_none_iff] using hf
  exact encMrs_fields (hc ▸ classFields_classOf w) (by rw [← ofBool_flag, hr]; rfl) hsbo hsbz

theorem word_msrReg {w : Word} (hc : classOf w = .msrReg) (hf : formatError w = none) :
    (Instr.msrReg (condOf w) (fld 16 4 w) (fld 0 4 w)).word = w := by
  obtain ⟨h25, h23, h20, _, h21⟩ : ClassFields w .msrReg := hc ▸ classFields_classOf w
  obtain ⟨hr, hsbo, hsbz⟩ : flag 22 w = false ∧ fld 12 4 w = 0xF ∧ fld 4 8 w = 0 := by
    simpa [formatError, hc, firstReason_eq_none_iff] using hf
  have hfields := encMsr_fields h20 h21 (by rw [← ofBool_flag, hr]; rfl) hsbo
  rw [← fld_append 23 2 3, h25, h23, ← fld_append 0 4 8, hsbz, put_zero_append] at hfields
  exact hfields

theorem word_msrImm {w : Word} (hc : classOf w = .msrImm) (hf : formatError w = none) :
    (Instr.msrImm (condOf w) (fld 16 4 w) (rotImmOf w)).word = w := by
  obtain ⟨h25, h23, h20, h21⟩ : ClassFields w .msrImm := hc ▸ classFields_classOf w
  obtain ⟨hr, hsbo⟩ : flag 22 w = false ∧ fld 12 4 w = 0xF := by
    simpa [formatError, hc, firstReason_eq_none_iff] using hf
  have hfields := encMsr_fields h20 h21 (by rw [← ofBool_flag, hr]; rfl) hsbo
  rw [← fld_append 23 2 3, h25, h23, ← rotImmOf_enc] at hfields
  exact hfields

theorem word_bx {w : Word} (hc : classOf w = .bx) (hf : formatError w = none) :
    (Instr.bx (condOf w) (fld 0 4 w)).word = w :=
  encBx_fields (hc ▸ classFields_classOf w) (by simpa [formatError, hc, firstReason_eq_none_iff] using hf)

theorem word_branch {w : Word} (hc : classOf w = .branch) :
    (if flag 24 w then Instr.bl (condOf w) (fld 0 24 w) else .b (condOf w) (fld 0 24 w)).word = w := by
  have h25 : ClassFields w .branch := hc ▸ classFields_classOf w
  have hfields := encB_fields h25
  cases hl : flag 24 w with
  | true => rw [hl] at hfields; exact hfields
  | false => rw [hl] at hfields; exact hfields

/-- Settles O4: class by class, the fields the decoder reads and those the class and the format fix make up the word. -/
theorem encodeDecodeA32 : Obligations.EncodeDecodeA32 := by
  intro w i h
  obtain ⟨hi, hf⟩ := decodeWord_eq_ok.1 h
  refine ⟨?_, decodeA32_profile hi⟩
  unfold decodeA32 at hi
  split at hi <;> cases hi
  case h_1 hc => exact word_decodeMultiply hc hf
  case h_2 hc => exact word_decodeMultiplyLong hc
  case h_3 hc => exact word_decodeSwap hc hf
  case h_4 hc => exact word_decodeHalfword hc hf
  case h_5 hc => exact word_mrs hc hf
  case h_6 hc => exact word_msrReg hc hf
  case h_7 hc => exact word_bx hc hf
  case h_8 hc => exact word_decodeDataProcessing hc hf
  case h_9 hc => exact word_msrImm hc hf
  case h_10 hc => exact word_decodeSingle hc
  case h_11 hc => exact word_decodeBlock hc hf
  case h_12 hc => exact word_branch hc

/-! ## The decoder reads an encoding back (R170 to R185) -/

@[simp] theorem ofBool_beq_one (b : Bool) : (BitVec.ofBool b == 1#1) = b := by cases b <;> rfl

theorem decodeWord_encB (link : Bool) (c : Cond) (off : BitVec 24) :
    decodeWord (encB link c off) = .ok (if link then .bl c off else .b c off) := by
  have hc : classOf (encB link c off) = .branch := by
    simp [classOf, encB, putBit]
  simp only [decodeWord_eq_ok, decodeA32, formatError, hc]
  simp [flag, condOf, encB, putBit]

theorem decodeWord_encBx (c : Cond) (rm : Reg) : decodeWord (encBx c rm) = .ok (.bx c rm) := by
  have hc : classOf (encBx c rm) = .bx := by
    simp [classOf, classMisc, encBx]
  simp only [decodeWord_eq_ok, decodeA32, formatError, hc]
  simp [firstReason, condOf, encBx]

theorem decodeWord_encMrs (c : Cond) (rd : Reg) : decodeWord (encMrs c rd) = .ok (.mrs c rd) := by
  have hc : classOf (encMrs c rd) = .mrs := by
    simp [classOf, classMisc, encMrs]
  simp only [decodeWord_eq_ok, decodeA32, formatError, hc]
  simp [firstReason, flag, condOf, encMrs]

theorem decodeWord_encMsr_reg (c : Cond) (mask : BitVec 4) (rm : Reg) :
    decodeWord (encMsr 0b00010#5 c mask (put 0 rm)) = .ok (.msrReg c mask rm) := by
  have hc : classOf (encMsr 0b00010#5 c mask (put 0 rm)) = .msrReg := by
    simp [classOf, classMisc, encMsr]
  simp only [decodeWord_eq_ok, decodeA32, formatError, hc]
  simp [firstReason, flag, condOf, encMsr]

theorem decodeWord_encMsr_imm (c : Cond) (mask : BitVec 4) (o : RotImm) :
    decodeWord (encMsr 0b00110#5 c mask o.enc) = .ok (.msrImm c mask o) := by
  have hc : classOf (encMsr 0b00110#5 c mask o.enc) = .msrImm := by
    simp [classOf, encMsr, RotImm.enc]
  simp only [decodeWord_eq_ok, decodeA32, formatError, hc]
  simp [firstReason, flag, condOf, encMsr, rotImmOf, RotImm.enc]

theorem decodeWord_encMul (acc : Bool) (c : Cond) (sf : Bool) (rd rn rs rm : Reg) (hrn : acc = false → rn = 0) :
    decodeWord (encMul (0b000000#6 ++ BitVec.ofBool acc) c sf rd rn rs rm) =
      .ok (if acc then .mla c sf rd rn rs rm else .mul c sf rd rs rm) := by
  have hc : classOf (encMul (0b000000#6 ++ BitVec.ofBool acc) c sf rd rn rs rm) = .multiply := by
    cases acc <;> simp [classOf, classExtra, encMul, putBit]
  simp only [decodeWord_eq_ok, decodeA32, formatError, hc]
  cases acc with
  | true => simp [firstReason, flag, condOf, decodeMultiply, encMul, putBit]
  | false => simp [firstReason, flag, condOf, decodeMultiply, encMul, putBit, hrn rfl]

theorem decodeWord_encMul_long (signed acc : Bool) (c : Cond) (sf : Bool) (rdHi rdLo rs rm : Reg) :
    decodeWord (encMul (0b00001#5 ++ BitVec.ofBool signed ++ BitVec.ofBool acc) c sf rdHi rdLo rs rm) =
      .ok (mulLong signed acc c sf rdHi rdLo rs rm) := by
  have hc : classOf (encMul (0b00001#5 ++ BitVec.ofBool signed ++ BitVec.ofBool acc) c sf rdHi rdLo rs rm) = .multiplyLong := by
    cases signed <;> cases acc <;> simp [classOf, classExtra, encMul, putBit]
  simp only [decodeWord_eq_ok, decodeA32, formatError, hc]
  cases signed <;> cases acc <;> simp [flag, condOf, decodeMultiplyLong_eq, encMul, putBit]

theorem decodeWord_encSwap (byte : Bool) (c : Cond) (rn rd rm : Reg) :
    decodeWord (encSwap byte c rn rd rm) = .ok (if byte then .swpb c rn rd rm else .swp c rn rd rm) := by
  have hc : classOf (encSwap byte c rn rd rm) = .swap := by
    simp [classOf, classExtra, encSwap, putBit]
  simp only [decodeWord_eq_ok, decodeA32, formatError, hc]
  simp [firstReason, flag, condOf, decodeSwap, encSwap, putBit]

theorem decodeWord_encBlock (load p u : Bool) (c : Cond) (wb : Bool) (rn : Reg) (list : BitVec 16) :
    decodeWord (encBlock load p u c wb rn list) = .ok (blockOf load p u c wb rn list) := by
  have hc : classOf (encBlock load p u c wb rn list) = .blockTransfer := by
    simp [classOf, encBlock, putBit]
  simp only [decodeWord_eq_ok, decodeA32, formatError, hc]
  simp [firstReason, flag, condOf, decodeBlock_eq, encBlock, putBit]

theorem decodeWord_encSingle_imm (load byte p w : Bool) (c : Cond) (up : Bool) (rn rd : Reg) (imm : BitVec 12) :
    decodeWord (encSingle false p byte w load c up rn rd (put 0 imm)) = .ok (singleImm load byte p w c up rn rd imm) := by
  have hc : classOf (encSingle false p byte w load c up rn rd (put 0 imm)) = .singleTransfer := by
    simp [classOf, encSingle, putBit]
  simp only [decodeWord_eq_ok, decodeA32, formatError, hc]
  simp [flag, condOf, decodeSingle, decodeSingleImm_eq, encSingle, putBit]

theorem decodeWord_encSingle_reg (load byte p w : Bool) (c : Cond) (up : Bool) (rn rd : Reg) (o : ShiftImm) :
    decodeWord (encSingle true p byte w load c up rn rd o.enc) = .ok (singleReg load byte p w c up rn rd o) := by
  have hc : classOf (encSingle true p byte w load c up rn rd o.enc) = .singleTransfer := by
    simp [classOf, encSingle, ShiftImm.enc, putBit]
  simp only [decodeWord_eq_ok, decodeA32, formatError, hc]
  simp [flag, condOf, decodeSingle, decodeSingleReg_eq, encSingle, shiftImmOf, ShiftImm.enc, putBit]

theorem decodeWord_encHalf_imm {load : Bool} {sh : BitVec 2} (h : HalfCode load sh) (c : Cond) (p u wb : Bool) (rn rd : Reg)
    (imm : Byte) :
    decodeWord (encHalf true load sh c p u wb rn rd (encImm8 imm)) = .ok (halfImm load sh c p u wb rn rd imm) := by
  have hc : classOf (encHalf true load sh c p u wb rn rd (encImm8 imm)) = .halfwordTransfer := by
    obtain ⟨rfl, rfl⟩ | ⟨rfl, rfl | rfl | rfl⟩ := halfCode_cases h <;>
      simp [classOf, classExtra, encHalf, encImm8, putBit]
  simp only [decodeWord_eq_ok, decodeA32, formatError, hc]
  simp [firstReason, flag, condOf, decodeHalfword_eq, encHalf, encImm8, append_nibbles, putBit]

theorem decodeWord_encHalf_reg {load : Bool} {sh : BitVec 2} (h : HalfCode load sh) (c : Cond) (p u wb : Bool)
    (rn rd rm : Reg) :
    decodeWord (encHalf false load sh c p u wb rn rd (put 0 rm)) = .ok (halfReg load sh c p u wb rn rd rm) := by
  have hc : classOf (encHalf false load sh c p u wb rn rd (put 0 rm)) = .halfwordTransfer := by
    obtain ⟨rfl, rfl⟩ | ⟨rfl, rfl | rfl | rfl⟩ := halfCode_cases h <;> simp [classOf, classExtra, encHalf, putBit]
  simp only [decodeWord_eq_ok, decodeA32, formatError, hc]
  simp [firstReason, flag, condOf, decodeHalfword_eq, encHalf, putBit]

/-- The comparisons have S = 1, so no data-processing encoding is in the miscellaneous space (R170). -/
theorem not_misc_of_dpOperands {op : DpOp} {sf : Bool} {rn rd : Reg} (h : DpOperands op sf rn rd) :
    ¬(op.code.extractLsb' 2 2 = 0b10#2 ∧ BitVec.ofBool sf = 0#1) := by
  rintro ⟨hcode, hs⟩
  rw [(h.compare ((isCompare_iff_code op).2 hcode)).1] at hs
  exact absurd hs (by decide)

theorem decodeWord_encDp_imm {op : DpOp} {sf : Bool} {rn rd : Reg} (h : DpOperands op sf rn rd) (c : Cond) (o : RotImm) :
    decodeWord (encDp op true c sf rn rd o.enc) = .ok (dpImm c sf rn rd o op) := by
  have hmisc := not_misc_of_dpOperands h
  have hc : classOf (encDp op true c sf rn rd o.enc) = .dataProcessing := by
    simp [classOf, encDp, RotImm.enc, putBit, hmisc]
  simp only [decodeWord_eq_ok, decodeA32, formatError, hc]
  simpa [firstReason, flag, condOf, decodeDataProcessing, encDp, rotImmOf, RotImm.enc, putBit] using
    h.fixedFields

theorem decodeWord_encDp_shift {op : DpOp} {sf : Bool} {rn rd : Reg} (h : DpOperands op sf rn rd) (c : Cond) (o : ShiftImm) :
    decodeWord (encDp op false c sf rn rd o.enc) = .ok (dpShift c sf rn rd o op) := by
  have hmisc := not_misc_of_dpOperands h
  have hc : classOf (encDp op false c sf rn rd o.enc) = .dataProcessing := by
    simp [classOf, encDp, ShiftImm.enc, putBit, hmisc]
  simp only [decodeWord_eq_ok, decodeA32, formatError, hc]
  simpa [firstReason, flag, condOf, decodeDataProcessing, encDp, shiftImmOf, ShiftImm.enc, putBit] using
    h.fixedFields

theorem decodeWord_encDp_shiftReg {op : DpOp} {sf : Bool} {rn rd : Reg} (h : DpOperands op sf rn rd) (c : Cond) (o : ShiftReg) :
    decodeWord (encDp op false c sf rn rd o.enc) = .ok (dpShiftReg c sf rn rd o op) := by
  have hmisc := not_misc_of_dpOperands h
  have hc : classOf (encDp op false c sf rn rd o.enc) = .dataProcessing := by
    simp [classOf, encDp, ShiftReg.enc, putBit, hmisc]
  simp only [decodeWord_eq_ok, decodeA32, formatError, hc]
  simpa [firstReason, flag, condOf, decodeDataProcessing, encDp, shiftRegOf, ShiftReg.enc, putBit] using
    h.fixedFields

/-! ## Every instruction is read back (R170 to R185, R200 to R205) -/

/-- The operands of an operation that writes Rd and reads Rn may be any. -/
theorem dpOperands_any {op : DpOp} (hcompare : op.isCompare = false) (hmove : op.isMove = false) (sf : Bool) (rn rd : Reg) :
    DpOperands op sf rn rd :=
  ⟨fun h => absurd (hcompare.symm.trans h) (by decide), fun h => absurd (hmove.symm.trans h) (by decide)⟩

theorem dpOperands_compare {op : DpOp} (hmove : op.isMove = false) (rn : Reg) : DpOperands op true rn 0 :=
  ⟨fun _ => ⟨rfl, rfl⟩, fun h => absurd (hmove.symm.trans h) (by decide)⟩

theorem dpOperands_move {op : DpOp} (hcompare : op.isCompare = false) (sf : Bool) (rd : Reg) : DpOperands op sf 0 rd :=
  ⟨fun h => absurd (hcompare.symm.trans h) (by decide), fun _ => rfl⟩

/-- An entry and the operand bytes after its opcode make the instruction (R202). -/
def Makes : N8Entry → List Byte → Instr → Prop
  | .plain j, [], i => j = i
  | .byte f, [b], i => f b = i
  | .half f, [lo, hi], i => f (half hi lo) = i
  | .cbTable, [cb], i => cbInstr cb = i
  | _, _, _ => False

/-- What the N8 decoder takes: an opcode byte and the operand bytes its entry asks for. -/
theorem decodeN8_eq_ok {bytes rest : List Byte} {i : Instr} : decodeN8 bytes = .ok (i, rest) ↔
    ∃ op operands, bytes = op :: operands ++ rest ∧ Makes (n8Entry op) operands i := by
  constructor
  · intro h
    cases bytes with
    | nil => cases h
    | cons op tail =>
      simp only [decodeN8] at h
      split at h <;> cases h
      case h_1 he => exact ⟨op, [], rfl, by rw [he]; rfl⟩
      case h_2 f b he => exact ⟨op, [b], rfl, by rw [he]; rfl⟩
      case h_3 f lo hi he => exact ⟨op, [lo, hi], rfl, by rw [he]; rfl⟩
      case h_4 cb he => exact ⟨op, [cb], rfl, by rw [he]; rfl⟩
  · rintro ⟨op, operands, rfl, h⟩
    unfold Makes at h
    split at h
    case h_5 => cases h
    all_goals
      next he =>
      subst h
      simp [decodeN8, he]

/-- Decoding the encoding of an instruction gives the instruction. -/
def ReadBack (i : Instr) : Prop :=
  match i.encoding with
  | .word w => decodeWord w = .ok i
  | .bytes [] => False
  | .bytes (op :: operands) => Makes (n8Entry op) operands i

/-- A32 format by format; N8 by the entry of the dispatch table. -/
theorem readBack (i : Instr) : ReadBack i := by
  cases i
  case b => exact decodeWord_encB false _ _
  case bl => exact decodeWord_encB true _ _
  case bx => exact decodeWord_encBx _ _
  case andImm | eorImm | subImm | rsbImm | addImm | adcImm | sbcImm | rscImm | orrImm | bicImm =>
    exact decodeWord_encDp_imm (dpOperands_any rfl rfl _ _ _) _ _
  case andShift | eorShift | subShift | rsbShift | addShift | adcShift | sbcShift | rscShift | orrShift | bicShift =>
    exact decodeWord_encDp_shift (dpOperands_any rfl rfl _ _ _) _ _
  case andShiftReg | eorShiftReg | subShiftReg | rsbShiftReg | addShiftReg | adcShiftReg | sbcShiftReg | rscShiftReg |
      orrShiftReg | bicShiftReg =>
    exact decodeWord_encDp_shiftReg (dpOperands_any rfl rfl _ _ _) _ _
  case tstImm | teqImm | cmpImm | cmnImm => exact decodeWord_encDp_imm (dpOperands_compare rfl _) _ _
  case tstShift | teqShift | cmpShift | cmnShift => exact decodeWord_encDp_shift (dpOperands_compare rfl _) _ _
  case tstShiftReg | teqShiftReg | cmpShiftReg | cmnShiftReg =>
    exact decodeWord_encDp_shiftReg (dpOperands_compare rfl _) _ _
  case movImm | mvnImm => exact decodeWord_encDp_imm (dpOperands_move rfl _ _) _ _
  case movShift | mvnShift => exact decodeWord_encDp_shift (dpOperands_move rfl _ _) _ _
  case movShiftReg | mvnShiftReg => exact decodeWord_encDp_shiftReg (dpOperands_move rfl _ _) _ _
  case mrs => exact decodeWord_encMrs _ _
  case msrReg => exact decodeWord_encMsr_reg _ _ _
  case msrImm => exact decodeWord_encMsr_imm _ _ _
  case mul => exact decodeWord_encMul false _ _ _ _ _ _ fun _ => rfl
  case mla => exact decodeWord_encMul true _ _ _ _ _ _ nofun
  case umull => exact decodeWord_encMul_long false false _ _ _ _ _ _
  case umlal => exact decodeWord_encMul_long false true _ _ _ _ _ _
  case smull => exact decodeWord_encMul_long true false _ _ _ _ _ _
  case smlal => exact decodeWord_encMul_long true true _ _ _ _ _ _
  case swp => exact decodeWord_encSwap false _ _ _ _
  case swpb => exact decodeWord_encSwap true _ _ _ _
  case ldrImmPre | ldrImmPost | ldrtImm | ldrbImmPre | ldrbImmPost | ldrbtImm | strImmPre | strImmPost | strtImm |
      strbImmPre | strbImmPost | strbtImm =>
    exact decodeWord_encSingle_imm _ _ _ _ _ _ _ _ _
  case ldrRegPre | ldrRegPost | ldrtReg | ldrbRegPre | ldrbRegPost | ldrbtReg | strRegPre | strRegPost | strtReg |
      strbRegPre | strbRegPost | strbtReg =>
    exact decodeWord_encSingle_reg _ _ _ _ _ _ _ _ _
  case strhImm => exact decodeWord_encHalf_imm ⟨by decide, fun _ => rfl⟩ _ _ _ _ _ _ _
  case strhReg => exact decodeWord_encHalf_reg ⟨by decide, fun _ => rfl⟩ _ _ _ _ _ _ _
  case ldrhImm | ldrsbImm | ldrshImm => exact decodeWord_encHalf_imm (load := true) ⟨by decide, nofun⟩ _ _ _ _ _ _ _
  case ldrhReg | ldrsbReg | ldrshReg => exact decodeWord_encHalf_reg (load := true) ⟨by decide, nofun⟩ _ _ _ _ _ _ _
  case ldmda | ldmia | ldmdb | ldmib | stmda | stmia | stmdb | stmib => exact decodeWord_encBlock _ _ _ _ _ _ _
  case ld_bc_d16 | ld_de_d16 | ld_hl_d16 | ld_sp_d16 | ld_ma16_sp | ld_ma16_a | ld_a_ma16 | jp_a16 | jp_nz_a16 | jp_z_a16 |
      jp_nc_a16 | jp_c_a16 | call_a16 | call_nz_a16 | call_z_a16 | call_nc_a16 | call_c_a16 =>
    exact congrArg _ (half_hiByte_loByte _)
  all_goals exact rfl

/-- Settles O2: the instruction's encoding is its word, which is read back. -/
theorem decodeEncodeA32 : Obligations.DecodeEncodeA32 := by
  intro i hi
  have hread := readBack i
  unfold Instr.profile at hi
  unfold ReadBack at hread
  split at hi
  case h_1 w hw =>
    rw [hw] at hread
    rwa [Instr.word, hw]
  case h_2 => cases hi

/-! ## What the N8 decoder takes is the encoding of what it reads (R200 to R206) -/

/-- The encoding of the instruction that an entry makes of the operand `v`, or of its low byte; 0xCB alone for the
second table. -/
def entryEncoding (v : Half) : N8Entry → Option Encoding
  | .plain i => some i.encoding
  | .byte f => some (f (loByte v)).encoding
  | .half f => some (f v).encoding
  | .cbTable => some (.bytes [0xCB])
  | .absent => none

/-- The bytes from which the decoder comes to an entry with the operand `v`, or with its low byte; `op` alone for the
second table. -/
def entryBytes (op : Byte) (v : Half) : N8Entry → Option Encoding
  | .plain _ => some (.bytes [op])
  | .byte _ => some (.bytes [op, loByte v])
  | .half _ => some (.bytes [op, loByte v, hiByte v])
  | .cbTable => some (.bytes [op])
  | .absent => none

/-- `P` holds of every element of a list and its index, the first one at `k`. -/
def ForallFrom {α : Type} (P : Byte → α → Prop) (k : Nat) : List α → Prop
  | [] => True
  | a :: rest => P (BitVec.ofNat 8 k) a ∧ ForallFrom P (k + 1) rest

section
variable {α : Type} {P : Byte → α → Prop}

theorem ForallFrom.cons {k : Nat} {a : α} {rest : List α} (h : P (BitVec.ofNat 8 k) a) (h' : ForallFrom P (k + 1) rest) :
    ForallFrom P k (a :: rest) := ⟨h, h'⟩

theorem ForallFrom.append {k : Nat} {l m : List α} (h : ForallFrom P k l) (h' : ForallFrom P (k + l.length) m) :
    ForallFrom P k (l ++ m) := by
  induction l generalizing k with
  | nil => exact h'
  | cons a rest ih => exact ⟨h.1, ih h.2 (by rwa [Nat.add_assoc, Nat.add_comm 1])⟩

theorem ForallFrom.getElem {k : Nat} {l : List α} (h : ForallFrom P k l) {j : Nat} (hj : j < l.length) :
    P (BitVec.ofNat 8 (k + j)) l[j] := by
  induction l generalizing k j with
  | nil => cases hj
  | cons b rest ih =>
    cases j with
    | zero => exact h.1
    | succ j =>
      rw [← Nat.add_assoc, Nat.add_right_comm]
      exact ih h.2 (Nat.lt_of_succ_lt_succ hj)

/-- `P` holds of every element of a table of `n` entries and its index. -/
structure TableSays (P : Byte → α → Prop) (n : Nat) (l : List α) : Prop where
  length : l.length = n
  entries : ForallFrom P 0 l

theorem TableSays.append {n : Nat} {l row : List α} (h : TableSays P n l) (hrow : row.length = 16)
    (h' : ForallFrom P n row) : TableSays P (n + 16) (l ++ row) where
  length := by rw [List.length_append, h.length, hrow]
  entries := h.entries.append (by rwa [h.length, Nat.zero_add])

theorem TableSays.getD {l : List α} (h : TableSays P 256 l) (op : Byte) (default : α) : P op (l.getD op.toNat default) := by
  have hop : op.toNat < l.length := h.length ▸ op.isLt
  have hentry := h.entries.getElem hop
  rw [Nat.zero_add, BitVec.ofNat_toNat, BitVec.setWidth_eq] at hentry
  rwa [List.getD_eq_getElem _ _ hop]

end

theorem n8Table_encodes : TableSays (fun op e => ∀ v, entryEncoding v e = entryBytes op v e) 256 n8Table := by
  unfold n8Table
  repeat' refine TableSays.append ?_ rfl ?_
  refine ⟨rfl, ?_⟩
  all_goals
    repeat' refine ForallFrom.cons (fun _ => rfl) ?_
    exact trivial

theorem cbTable_encodes : TableSays (fun cb i => i.encoding = .bytes [0xCB, cb]) 256 cbTable := by
  unfold cbTable
  repeat' refine TableSays.append ?_ rfl ?_
  refine ⟨rfl, ?_⟩
  all_goals
    repeat' refine ForallFrom.cons rfl ?_
    exact trivial

theorem n8Entry_encoding (op : Byte) (v : Half) : entryEncoding v (n8Entry op) = entryBytes op v (n8Entry op) :=
  n8Table_encodes.getD op .absent v

theorem cbInstr_encoding (cb : Byte) : (cbInstr cb).encoding = .bytes [0xCB, cb] := cbTable_encodes.getD cb .nop

theorem encoding_of_makes {op : Byte} {operands : List Byte} {i : Instr} (h : Makes (n8Entry op) operands i) :
    i.encoding = .bytes (op :: operands) := by
  have henc := n8Entry_encoding op
  unfold Makes at h
  split at h
  case h_1 he =>
    subst h
    simpa [he, entryEncoding, entryBytes] using henc 0
  case h_2 b he =>
    subst h
    simpa [he, entryEncoding, entryBytes] using henc (half 0 b)
  case h_3 lo hi he =>
    subst h
    simpa [he, entryEncoding, entryBytes] using henc (half hi lo)
  case h_4 cb he =>
    subst h
    have hop : 0xCB = op := by simpa [he, entryEncoding, entryBytes] using henc 0
    rw [← hop, cbInstr_encoding]
  case h_5 => cases h

/-- Settles O3: an encoding is an opcode and the operand bytes its entry asks for, and what the decoder takes is such an
encoding. -/
theorem decodeEncodeN8 : Obligations.DecodeEncodeN8 := by
  constructor
  · intro i rest hi
    have hread := readBack i
    unfold ReadBack at hread
    unfold Instr.profile at hi
    split at hread
    case h_1 he => rw [he] at hi; cases hi
    case h_2 => cases hread
    case h_3 op operands he =>
      refine decodeN8_eq_ok.2 ⟨op, operands, ?_, hread⟩
      rw [encode, he]
  · intro bytes rest i h
    obtain ⟨op, operands, rfl, hmakes⟩ := decodeN8_eq_ok.1 h
    have he := encoding_of_makes hmakes
    exact ⟨by rw [encode, he], by rw [Instr.profile, he]⟩

end Sys2Proof.Machine

namespace Sys2Proof.Machine

/-! ## The words of no class (R170, R172) -/

theorem decodeA32_eq_none {w : Word} : decodeA32 w = none ↔ classOf w = .unrecognized := by
  unfold decodeA32
  cases classOf w <;> simp

theorem fld_26_2_eq_three {w : Word} : fld 26 2 w = 0b11#2 ↔ fld 25 3 w = 0b110#3 ∨ fld 25 3 w = 0b111#3 := by
  rw [← extractLsb'_fld (lo := 25) (len := 3) (a := 1) (n := 2) (by decide)]
  generalize fld 25 3 w = x
  revert x
  decide

/-- Bits 24:22 in the multiply and swap space, with `p` for bits 21:20 of SWP. -/
theorem multiply_space_iff {w : Word} {p : Prop} :
    ¬ fld 22 3 w = 0b000#3 ∧ ¬ fld 23 2 w = 0b01#2 ∧ ¬(fld 23 2 w = 0b10#2 ∧ p) ↔
      fld 24 1 w = 0#1 ∧ fld 23 1 w = 0#1 ∧ fld 22 1 w = 1#1 ∨ fld 24 1 w = 1#1 ∧ (fld 23 1 w = 1#1 ∨ ¬ p) := by
  have h (a n : Nat) (han : a + n ≤ 3) := extractLsb'_fld (lo := 22) han w
  rw [← h 1 2 (by decide), ← h 2 1 (by decide), ← h 1 1 (by decide), ← h 0 1 (by decide)]
  generalize fld 22 3 w = x
  by_cases hp : p <;> simp only [hp] <;> revert x <;> decide

theorem fld_6_1_eq_one {w : Word} : fld 6 1 w = 1#1 ↔ fld 5 2 w ≠ 0b00#2 ∧ fld 5 2 w ≠ 0b01#2 := by
  rw [← extractLsb'_fld (lo := 5) (len := 2) (a := 1) (n := 1) (by decide)]
  generalize fld 5 2 w = x
  revert x
  decide

theorem fld_20_2_eq_zero {w : Word} : fld 20 2 w = 0b00#2 ↔ fld 20 1 w = 0#1 ∧ fld 21 1 w ≠ 1#1 := by
  have h (a n : Nat) (han : a + n ≤ 2) := extractLsb'_fld (lo := 20) han w
  rw [← h 0 1 (by decide), ← h 1 1 (by decide)]
  generalize fld 20 2 w = x
  revert x
  decide

theorem classExtra_eq_unrecognized {w : Word} : classExtra w = .unrecognized ↔
    fld 5 2 w = 0b00#2 ∧ (fld 24 1 w = 0#1 ∧ fld 23 1 w = 0#1 ∧ fld 22 1 w = 1#1 ∨
      fld 24 1 w = 1#1 ∧ (fld 23 1 w = 1#1 ∨ fld 20 2 w ≠ 0b00#2)) ∨
    fld 6 1 w = 1#1 ∧ fld 20 1 w = 0#1 := by
  rw [← multiply_space_iff, fld_6_1_eq_one]
  unfold classExtra
  split_ifs <;> simp_all
  tauto

theorem classMisc_eq_unrecognized {w : Word} : classMisc w = .unrecognized ↔
    fld 4 4 w ≠ 0b0000#4 ∧ ¬(fld 4 4 w = 0b0001#4 ∧ fld 21 2 w = 0b01#2) := by
  have hbit : fld 21 1 w = 0#1 ∨ fld 21 1 w = 1#1 := by
    generalize fld 21 1 w = b
    revert b
    decide
  unfold classMisc
  split_ifs <;> simp_all
  rintro h4
  exact hbit.elim (‹fld 4 4 w = 0#4 → ¬fld 21 1 w = 0#1› h4) (‹fld 4 4 w = 0#4 → ¬fld 21 1 w = 1#1› h4)

/-- Settles O5: space by space of bits 27:25. -/
theorem unrecognizedWords : Obligations.UnrecognizedWords := by
  intro w
  rw [decodeA32_eq_none, fld_26_2_eq_three]
  unfold classOf
  split
  case h_1 h =>
    have h := toNat_fld_eq h
    split_ifs with hextra hmisc
    · rw [classExtra_eq_unrecognized]
      simp [h, hextra]
    · rw [classMisc_eq_unrecognized]
      obtain h7 | h4 := not_and_or.1 hextra <;> simp_all
    · obtain h7 | h4 := not_and_or.1 hextra <;> simp_all
  case h_2 h =>
    have h := toNat_fld_eq h
    rw [fld_20_2_eq_zero]
    split_ifs <;> simp_all
  case h_3 h => simp [toNat_fld_eq h]
  case h_4 h => simp [toNat_fld_eq h]
  case h_5 h => simp [toNat_fld_eq h]
  case h_6 h => simp [toNat_fld_eq h]
  case h_7 h0 h1 h2 h3 h4 h5 =>
    have htop : fld 25 3 w = 0b110#3 ∨ fld 25 3 w = 0b111#3 := by
      generalize fld 25 3 w = x at h0 h1 h2 h3 h4 h5
      revert x
      decide
    simp [htop]

end Sys2Proof.Machine

namespace Sys2Proof.Machine

/-! ## The register combinations refused (R186, R282, R283, R330, R363, R372, R380, R390) -/

theorem wellFormed_iff {i : Instr} : wellFormed i = true ↔ i.encodingError = none := Option.isNone_iff_eq_none

theorem dpError_eq_none {sf : Bool} {rd : Reg} : dpError sf rd = none ↔ ¬(sf = true ∧ rd = 15) := by
  simp [dpError, firstReason_eq_none_iff]

theorem dpShiftRegError_eq_none {sf : Bool} {rd rn : Reg} {o : ShiftReg} :
    dpShiftRegError sf rd rn o = none ↔ o.rm ≠ 15 ∧ o.rs ≠ 15 ∧ rn ≠ 15 ∧ rd ≠ 15 := by
  grind [dpShiftRegError, firstReason]

theorem mulError_eq_none {rd rn rs rm : Reg} :
    mulError rd rn rs rm = none ↔ rd ≠ 15 ∧ rn ≠ 15 ∧ rs ≠ 15 ∧ rm ≠ 15 ∧ rd ≠ rm := by
  simp [mulError, firstReason_eq_none_iff, and_assoc]

theorem mulLongError_eq_none {hi lo rs rm : Reg} : mulLongError hi lo rs rm = none ↔
    hi ≠ 15 ∧ lo ≠ 15 ∧ rs ≠ 15 ∧ rm ≠ 15 ∧ hi ≠ lo ∧ hi ≠ rm ∧ lo ≠ rm := by
  simp [mulLongError, firstReason_eq_none_iff, and_assoc]

theorem swapError_eq_none {rn rd rm : Reg} :
    swapError rn rd rm = none ↔ rn ≠ 15 ∧ rd ≠ 15 ∧ rm ≠ 15 ∧ rn ≠ rm ∧ rn ≠ rd := by
  simp [swapError, firstReason_eq_none_iff, and_assoc]

theorem singleError_eq_none {byte back : Bool} {rn rd : Reg} {rm : Option Reg} : singleError byte back rn rd rm = none ↔
    rm ≠ some 15 ∧ ¬(byte = true ∧ rd = 15) ∧ ¬(back = true ∧ (rn = 15 ∨ rn = rd)) := by
  grind [singleError, writebackError, firstReason]

theorem halfError_eq_none {pre wb : Bool} {rn rd : Reg} {rm : Option Reg} : halfError pre wb rn rd rm = none ↔
    ¬(pre = false ∧ wb = true) ∧ rd ≠ 15 ∧ rm ≠ some 15 ∧ ¬((pre = false ∨ wb = true) ∧ (rn = 15 ∨ rn = rd)) := by
  grind [halfError, writebackError, firstReason]

theorem inList_iff {list : BitVec 16} {r : Reg} : inList list r = true ↔ r ∈ registersOf list :=
  (mem_registersOf list r).symm

theorem isLowest_iff_forall {list : BitVec 16} {r : Reg} : isLowest list r = true ↔
    r ∈ registersOf list ∧ ∀ q ∈ registersOf list, r.toNat ≤ q.toNat := by
  simp only [isLowest, Bool.and_eq_true, inList_iff, List.all_eq_true, List.mem_range, Bool.not_eq_true',
    mem_registersOf]
  refine and_congr_right fun _ => ⟨fun h q hq => ?_, fun h j hj => ?_⟩
  · by_contra hlt
    rw [h q.toNat (Nat.lt_of_not_le hlt)] at hq
    cases hq
  · have hsmall : j < 16 := Nat.lt_trans hj r.isLt
    by_contra hset
    have hle := h (BitVec.ofNat 4 j) (by simpa [Nat.mod_eq_of_lt hsmall] using hset)
    rw [BitVec.toNat_ofNat, Nat.mod_eq_of_lt hsmall] at hle
    omega

/-- The registers of a list ascend, so the first one is the least. -/
theorem isLowest_iff {list : BitVec 16} {r : Reg} : isLowest list r = true ↔ (registersOf list).head? = some r := by
  have hsorted := registersOf_sorted list
  rw [isLowest_iff_forall]
  cases hregs : registersOf list with
  | nil => simp
  | cons first rest =>
    rw [hregs, List.pairwise_cons] at hsorted
    obtain ⟨hfirst, _⟩ := hsorted
    rw [List.head?_cons, Option.some_inj]
    constructor
    · rintro ⟨hmem, hleast⟩
      obtain rfl | hrest := List.mem_cons.1 hmem
      · rfl
      · exact absurd (hfirst r hrest) (Nat.not_lt.2 (hleast first List.mem_cons_self))
    · rintro rfl
      exact ⟨List.mem_cons_self, List.forall_mem_cons.2 ⟨Nat.le_refl _, fun q hq => Nat.le_of_lt (hfirst q hq)⟩⟩

theorem ldmError_eq_none {wb : Bool} {rn : Reg} {list : BitVec 16} : ldmError wb rn list = none ↔
    list ≠ 0 ∧ rn ≠ 15 ∧ ¬(wb = true ∧ rn ∈ registersOf list) := by
  simp [ldmError, blockError, firstReason_eq_none_iff, ← inList_iff, and_assoc]

theorem stmError_eq_none {wb : Bool} {rn : Reg} {list : BitVec 16} : stmError wb rn list = none ↔
    list ≠ 0 ∧ rn ≠ 15 ∧ ¬(wb = true ∧ rn ∈ registersOf list ∧ (registersOf list).head? ≠ some rn) := by
  simp [stmError, blockError, firstReason_eq_none_iff, ← inList_iff, ← isLowest_iff, and_assoc]

/-- The comparisons write no register, so their Rd and S are not looked at. -/
theorem encodingError_dpImm (c : Cond) (s : Bool) (rn rd : Reg) (o : RotImm) (op : DpOp) :
    (dpImm c s rn rd o op).encodingError = if op.isCompare then none else dpError s rd := by
  cases op <;> rfl

theorem encodingError_dpShift (c : Cond) (s : Bool) (rn rd : Reg) (o : ShiftImm) (op : DpOp) :
    (dpShift c s rn rd o op).encodingError = if op.isCompare then none else dpError s rd := by
  cases op <;> rfl

theorem encodingError_dpShiftReg (c : Cond) (s : Bool) (rn rd : Reg) (o : ShiftReg) (op : DpOp) :
    (dpShiftReg c s rn rd o op).encodingError =
      dpShiftRegError (!op.isCompare && s) (if op.isCompare then 0 else rd) (if op.isMove then 0 else rn) o := by
  cases op <;> rfl

theorem encodingError_ldmOf (m : BlockMode) (c : Cond) (wb : Bool) (rn : Reg) (list : BitVec 16) :
    (ldmOf m c wb rn list).encodingError = ldmError wb rn list := by
  cases m <;> rfl

theorem encodingError_stmOf (m : BlockMode) (c : Cond) (wb : Bool) (rn : Reg) (list : BitVec 16) :
    (stmOf m c wb rn list).encodingError = stmError wb rn list := by
  cases m <;> rfl

/-- No N8 instruction is refused (R42, R206). -/
theorem encodingError_n8 {i : Instr} (h : i.profile = .n8) : i.encodingError = none := by
  unfold Instr.encodingError
  split
  case h_103 => rfl
  all_goals cases h

/-- Settles O7: each family's test refuses exactly the combinations named. -/
theorem refusedCombinations : Obligations.RefusedCombinations := by
  unfold Obligations.RefusedCombinations
  simp only [wellFormed_iff]
  refine ⟨fun op c s rn rd o => ?_, fun op c s rn rd o => ?_, fun op c s rn rd o => ?_, fun c rd => ?_, fun c m rm => ?_,
    fun c sf rd rs rm => ?_, fun c sf rd rn rs rm => mulError_eq_none, fun c sf hi lo rs rm i hmem => ?_,
    fun c rn rd rm i hmem => ?_, fun c up wb rn rd imm i byte back hmem => ?_, fun c up wb rn rd o i byte back hmem => ?_,
    fun c pre up wb rn rd rm imm i offset hmem => ?_, fun m c wb rn list => ?_, fun c off rm mask o i hmem => ?_,
    fun i hi => encodingError_n8 hi⟩
  · rw [encodingError_dpImm]
    cases op.isCompare <;> simp [dpError_eq_none]
  · rw [encodingError_dpShift]
    cases op.isCompare <;> simp [dpError_eq_none]
  · rw [encodingError_dpShiftReg, dpShiftRegError_eq_none]
    cases op.isCompare <;> cases op.isMove <;> simp
  · exact firstReason_eq_none_iff.trans (by simp)
  · exact firstReason_eq_none_iff.trans (by simp)
  · exact mulError_eq_none.trans (by simp)
  · simp only [List.mem_cons, List.not_mem_nil, or_false] at hmem
    obtain rfl | rfl | rfl | rfl := hmem <;> exact mulLongError_eq_none
  · simp only [List.mem_cons, List.not_mem_nil, or_false] at hmem
    obtain rfl | rfl := hmem <;> exact swapError_eq_none
  · have herr : i.encodingError = singleError byte back rn rd none := by
      fin_cases hmem <;> rfl
    rw [herr, singleError_eq_none]
    simp
  · have herr : i.encodingError = singleError byte back rn rd (some o.rm) := by
      fin_cases hmem <;> rfl
    rw [herr, singleError_eq_none, Ne, Option.some_inj]
  · have herr : i.encodingError = halfError pre wb rn rd offset := by
      fin_cases hmem <;> rfl
    rw [herr, halfError_eq_none]
  · rw [encodingError_ldmOf, encodingError_stmOf]
    exact ⟨ldmError_eq_none, stmError_eq_none⟩
  · fin_cases hmem <;> rfl

end Sys2Proof.Machine

namespace Sys2Proof.Machine

/-! ## Conditions (R161, R162, R510) -/

/-- Settles O15: a condition looks at four flags only, so the codes are a finite table over them. -/
theorem conditions : Obligations.Conditions := by
  refine ⟨fun f => ⟨rfl, rfl, rfl, rfl⟩, fun sw k => ?_⟩
  unfold conditionPassed flagN flagZ flagC flagV
  generalize sw.getLsbD 31 = n, sw.getLsbD 30 = z, sw.getLsbD 29 = c, sw.getLsbD 28 = v
  revert k n z c v
  decide

/-! ## The shifter (R181, R184, R280, R281, R282) -/

theorem rotImmValue_getLsbD (o : RotImm) {j : Nat} (hj : j < 32) :
    (rotImmValue o).getLsbD j = (o.imm.setWidth 32).getLsbD ((j + 2 * o.rot.toNat) % 32) :=
  rotateRight_getLsbD_mod _ _ j (by have := o.rot.isLt; omega) hj

/-- Settles O18: the value is a rotation of the extended immediate. -/
theorem rotatedImmediate : Obligations.RotatedImmediate :=
  ⟨fun o _ hj => rotImmValue_getLsbD o hj, by decide, by decide⟩

theorem shiftLeft_toNat_mod (m : Word) (n : Nat) : (m <<< n).toNat = m.toNat * 2 ^ n % 2 ^ 32 := by
  rw [BitVec.toNat_shiftLeft, Nat.shiftLeft_eq]

theorem ushiftRight_toNat_div (m : Word) (n : Nat) : (m >>> n).toNat = m.toNat / 2 ^ n := by
  rw [BitVec.toNat_ushiftRight, Nat.shiftRight_eq_div_pow]

theorem sshiftRight_toInt_div (m : Word) (n : Nat) : (m.sshiftRight n).toInt = m.toInt / 2 ^ n := by
  rw [BitVec.toInt_sshiftRight, Int.shiftRight_eq_div_pow]
  norm_cast

/-- The word of the sign is what an arithmetic shift by 32 or more leaves. -/
theorem signFill_eq_sshiftRight (m : Word) {n : Nat} (h : 32 ≤ n) : signFill m = m.sshiftRight n := by
  refine BitVec.eq_of_getLsbD_eq fun i hi => ?_
  have hbit : (0xFFFFFFFF : Word).getLsbD i = true := by
    rw [show (0xFFFFFFFF : Word) = BitVec.allOnes 32 from rfl, BitVec.getLsbD_allOnes, decide_eq_true hi]
  rw [BitVec.getLsbD_sshiftRight, BitVec.msb_eq_getLsbD_last, decide_eq_false (Nat.not_le.2 hi), if_neg (by omega)]
  unfold signFill
  cases hsign : m.getLsbD 31 with
  | true => rw [if_pos rfl, hbit]; simp
  | false => simp

/-! What each kind does, as one shift and one carry bit. -/

theorem shiftByImm_lsl (m : Word) (n : Nat) (c : Bool) :
    shiftByImm .lsl m n c = ⟨m <<< n, if n = 0 then c else m.getLsbD (32 - n)⟩ := by
  by_cases hn : n = 0 <;> simp [shiftByImm, hn]

theorem shiftByImm_lsr (m : Word) (n : Nat) (c : Bool) :
    shiftByImm .lsr m n c = ⟨m >>> (if n = 0 then 32 else n), m.getLsbD (if n = 0 then 31 else n - 1)⟩ := by
  by_cases hn : n = 0 <;> simp [shiftByImm, hn, BitVec.ushiftRight_eq_zero (Nat.le_refl 32)]

theorem shiftByImm_asr (m : Word) (n : Nat) (c : Bool) :
    shiftByImm .asr m n c = ⟨m.sshiftRight (if n = 0 then 32 else n), m.getLsbD (if n = 0 then 31 else n - 1)⟩ := by
  by_cases hn : n = 0
  · simp [shiftByImm, hn, signFill_eq_sshiftRight m (Nat.le_refl 32)]
  · simp [shiftByImm, hn]

theorem shiftByImm_ror_carry (m : Word) (n : Nat) (c : Bool) :
    (shiftByImm .ror m n c).carry = m.getLsbD (if n = 0 then 0 else n - 1) := by
  by_cases hn : n = 0 <;> simp [shiftByImm, hn]

/-- ROR by 0 is RRX: the carry flag comes in at the top. -/
theorem shiftByImm_ror_getLsbD (m : Word) {n : Nat} (c : Bool) (hn : n < 32) {j : Nat} (hj : j < 32) :
    (shiftByImm .ror m n c).value.getLsbD j =
      if n = 0 then (if j = 31 then c else m.getLsbD (j + 1)) else m.getLsbD ((j + n) % 32) := by
  by_cases h0 : n = 0
  · simp only [shiftByImm, h0, if_true, BitVec.getLsbD_or, BitVec.getLsbD_shiftLeft, BitVec.getLsbD_ushiftRight,
      BitVec.getLsbD_setWidth]
    by_cases htop : j = 31
    · simp [htop]
    · simp [htop, show j < 31 by omega, Nat.add_comm]
  · simp only [shiftByImm, h0, if_false]
    exact rotateRight_getLsbD_mod m n j hn hj

theorem shiftByReg_zero (k : ShiftKind) (m : Word) (c : Bool) : shiftByReg k m 0 c = ⟨m, c⟩ := rfl

theorem shiftByReg_lsl (m : Word) {n : Nat} (h : 0 < n) (c : Bool) :
    shiftByReg .lsl m n c = ⟨m <<< n, decide (n ≤ 32) && m.getLsbD (32 - n)⟩ := by
  rw [shiftByReg, if_neg (by omega)]
  rcases Nat.lt_trichotomy n 32 with hlt | rfl | hgt
  · simp [hlt, Nat.le_of_lt hlt]
  · simp
  · simp [show ¬ n < 32 by omega, show n ≠ 32 by omega, show ¬ n ≤ 32 by omega,
      BitVec.shiftLeft_eq_zero (Nat.le_of_lt hgt)]

theorem shiftByReg_lsr (m : Word) {n : Nat} (h : 0 < n) (c : Bool) :
    shiftByReg .lsr m n c = ⟨m >>> n, m.getLsbD (n - 1)⟩ := by
  rw [shiftByReg, if_neg (by omega)]
  rcases Nat.lt_trichotomy n 32 with hlt | rfl | hgt
  · simp [hlt]
  · simp [BitVec.ushiftRight_eq_zero (Nat.le_refl 32)]
  · simp [show ¬ n < 32 by omega, show n ≠ 32 by omega, BitVec.ushiftRight_eq_zero (Nat.le_of_lt hgt),
      BitVec.getLsbD_of_ge m (n - 1) (by omega)]

theorem shiftByReg_asr (m : Word) {n : Nat} (h : 0 < n) (c : Bool) :
    shiftByReg .asr m n c = ⟨m.sshiftRight n, m.getLsbD (if n < 32 then n - 1 else 31)⟩ := by
  rw [shiftByReg, if_neg (by omega)]
  by_cases hlt : n < 32
  · simp [hlt]
  · simp [hlt, signFill_eq_sshiftRight m (Nat.le_of_not_lt hlt)]

theorem shiftByReg_ror_carry (m : Word) {n : Nat} (h : 0 < n) (c : Bool) :
    (shiftByReg .ror m n c).carry = m.getLsbD ((n + 31) % 32) := by
  rw [shiftByReg, if_neg (by omega)]
  by_cases h0 : n % 32 = 0
  · simp [h0, show (n + 31) % 32 = 31 by omega]
  · simp [h0, show (n + 31) % 32 = n % 32 - 1 by omega]

theorem shiftByReg_ror_getLsbD (m : Word) {n : Nat} (h : 0 < n) (c : Bool) {j : Nat} (hj : j < 32) :
    (shiftByReg .ror m n c).value.getLsbD j = m.getLsbD ((j + n) % 32) := by
  rw [shiftByReg, if_neg (by omega)]
  by_cases h0 : n % 32 = 0
  · simp [h0, show (j + n) % 32 = j by omega]
  · simp only [h0, if_false]
    rw [rotateRight_getLsbD_mod m _ j (Nat.mod_lt _ (by decide)) hj, Nat.add_mod_mod]

/-- Settles O19: each kind is one shift of the word and one of its bits. -/
theorem shifts : Obligations.Shifts := by
  refine ⟨fun _ _ => rfl, fun _ _ => rfl, fun o s hrm hrs => ?_, fun m n c hn => ⟨?_, ?_, ?_, fun j hj => ?_, ?_⟩,
    fun m n c => ⟨fun k => shiftByReg_zero k m c, fun h _ => ⟨?_, ?_, ?_, fun j hj => ?_, ?_⟩⟩⟩
  · rw [shiftRegOperand, readReg_of_ne hrm, readReg_of_ne hrs, flagC, BitVec.extractLsb'_toNat, Nat.shiftRight_zero]
  · rw [shiftByImm_lsl]
    exact ⟨shiftLeft_toNat_mod m n, rfl⟩
  · rw [shiftByImm_lsr]
    exact ⟨ushiftRight_toNat_div m _, rfl⟩
  · rw [shiftByImm_asr]
    exact ⟨sshiftRight_toInt_div m _, rfl⟩
  · exact shiftByImm_ror_getLsbD m c hn hj
  · exact shiftByImm_ror_carry m n c
  · rw [shiftByReg_lsl m h]
    exact ⟨shiftLeft_toNat_mod m n, rfl⟩
  · rw [shiftByReg_lsr m h]
    exact ⟨ushiftRight_toNat_div m n, rfl⟩
  · rw [shiftByReg_asr m h]
    exact ⟨sshiftRight_toInt_div m n, rfl⟩
  · exact shiftByReg_ror_getLsbD m h c hj
  · exact shiftByReg_ror_carry m h c

/-! ## The addresses and data of transfers (R183, R364 to R374, R381) -/

theorem mod_two_eq_zero_iff (a : Word) : a % 2 = 0 ↔ a.getLsbD 0 = false := by
  rw [← toNat_mod_two_eq_zero_iff, ← BitVec.toNat_inj, BitVec.toNat_umod]
  rfl

theorem signedHalf_access (a : Word) :
    LoadKind.signedHalf.access a = if a % 2 = 0 then (a, .half) else (a, .byte) := by
  simp only [mod_two_eq_zero_iff, LoadKind.access]
  cases a.getLsbD 0 <;> rfl

theorem signedByte_finish_toInt (a v : Word) : (LoadKind.signedByte.finish a v).toInt = (v.setWidth 8).toInt :=
  BitVec.toInt_signExtend_of_le (by decide)

theorem signedHalf_finish_toInt (a v : Word) : (LoadKind.signedHalf.finish a v).toInt =
    if a % 2 = 0 then (v.setWidth 16).toInt else (v.setWidth 8).toInt := by
  simp only [mod_two_eq_zero_iff, LoadKind.finish]
  cases a.getLsbD 0
  · exact BitVec.toInt_signExtend_of_le (by decide)
  · exact BitVec.toInt_signExtend_of_le (by decide)

/-- Settles O30: a mask takes a remainder away, a misaligned datum is a rotation, and a block is its ascending registers. -/
theorem transferAddresses : Obligations.TransferAddresses := by
  refine ⟨fun a v => ⟨⟨?_, ?_⟩, ⟨rfl, rfl, rfl⟩, ⟨?_, ?_⟩, signedHalf_access a, fun j hj => ?_, fun j hj => ?_, rfl,
    signedByte_finish_toInt a v, signedHalf_finish_toInt a v⟩,
    fun list base k hk => ⟨mem_registersOf list, registersOf_sorted list, fun mode start new hmem => ?_⟩⟩
  · rw [LoadKind.access, and_mask_four]
  · rw [StoreKind.access, and_mask_four]
  · rw [LoadKind.access, and_mask_two]
  · rw [StoreKind.access, and_mask_two]
  · exact rotateRight_getLsbD_mod v _ j (by omega) hj
  · exact rotateRight_getLsbD_mod v _ j (by omega) hj
  · subst hk
    rw [← and_mask_four]
    fin_cases hmem <;> exact ⟨rfl, rfl⟩

/-! ## The length of an N8 instruction (R203, R206) -/

/-- Settles O6, entry by entry of the dispatch table. -/
theorem opcodeLengths : Obligations.OpcodeLengths := by
  unfold Obligations.OpcodeLengths
  decide

end Sys2Proof.Machine

namespace Sys2Proof.Machine

/-! ## A word that decodes to nothing (R187, R226, R227) -/

theorem fetch_of_route {s : State} {a : Word} {w : Width} {r : Region} {o : Nat}
    (h : route s.cfg a.toNat w.bytes = some (r, o)) : s.fetch a w = .ok (s.readValue r o w, s.afterRead r o w) := by
  rw [State.fetch, State.loadAt, busRead_of_route h]

/-- The front of a step of an A32 core with T = 0 whose word is routed (R222, R223). -/
theorem fetchNext_a32 {s : State} {r : Region} {o : Nat} (hp : s.cfg.profile = .a32) (hT : flagT s.sw = false)
    (hr : route s.cfg (s.getX 15).toNat 4 = some (r, o)) :
    fetchNext s = classifyA32 (s.readValue r o .word) (s.afterRead r o .word) := by
  rw [fetchNext, hp]
  simp only [fetchA32, hT, Bool.false_eq_true, if_false, fetch_of_route (w := .word) hr]

theorem step_of_fetchNext_done {s : State} {x : Result} (hrun : s.running = true) (h : fetchNext s = .done x) :
    step s = x := by
  rw [step, if_pos hrun, h]

theorem step_of_fetchNext_run {s u : State} {i : Instr} (hrun : s.running = true) (h : fetchNext s = .run i u) :
    step s = exec i u := by
  rw [step, if_pos hrun, h]

theorem firstReason_mem {l : List (Bool × DecodeReason)} {reason : DecodeReason} (h : firstReason l = some reason) :
    reason ∈ l.map Prod.snd := by
  induction l with
  | nil => cases h
  | cons p rest ih =>
    rw [List.map_cons, List.mem_cons]
    obtain ⟨bad, first⟩ := p
    cases bad with
    | true => cases h; exact .inl rfl
    | false => exact .inr (ih h)

/-- A violated fixed field is never reported as an unrecognized class. -/
theorem formatError_ne_unrecognizedClass (w : Word) : formatError w ≠ some .unrecognizedClass := by
  intro h
  unfold formatError at h
  split at h
  case h_10 | h_11 | h_12 | h_13 => cases h
  all_goals exact absurd (firstReason_mem h) (by simp)

/-- A refused word whose condition passed: of no class, or with a fixed field violated (R226, R227). -/
theorem classifyA32_refused {w : Word} {u : State} {reason : DecodeReason} (hc : conditionPassed (condOf w) u.sw = true)
    (h : decodeWord w = .error (.malformed reason)) :
    reason = .unrecognizedClass ∧ classifyA32 w u = .done (unrecognized w u) ∨
    reason ≠ .unrecognizedClass ∧ classifyA32 w u = .done (decodeFault u w reason) := by
  unfold decodeWord at h
  split at h
  case h_1 hnone =>
    cases h
    exact .inl ⟨rfl, by simp only [classifyA32, hc, if_true, hnone]⟩
  case h_2 i hi =>
    split at h
    case h_1 hformat =>
      cases h
      refine .inr ⟨fun hreason => formatError_ne_unrecognizedClass w (hreason ▸ hformat), ?_⟩
      simp only [classifyA32, hc, if_true, hi, hformat]
    case h_2 => cases h

theorem unrecognized_strict {s : State} (h : s.cfg.decodeMode = .strict) (w : Word) :
    unrecognized w s = decodeFault s w .unrecognizedClass := by
  rw [unrecognized, h]

theorem unrecognized_permissive {s : State} (h : s.cfg.decodeMode = .permissive) (w : Word) :
    unrecognized w s = .next ((s.emit (.unrecognizedNoOp (s.getX 15) w)).advance4.retire .unrecognizedNoOp) := by
  rw [unrecognized, h]

theorem decodeFault_afterRead {s : State} (hp : s.cfg.profile = .a32) (r : Region) (o : Nat) (w : Word)
    (reason : DecodeReason) : decodeFault (s.afterRead r o .word) w reason =
      .fault (.decode ⟨.a32, s.getX 15, s.readValue r o .word, s.draws + drawsOf r 4⟩ w (s.getX 15) reason) := by
  have hsite : (s.afterRead r o .word).site = ⟨.a32, s.getX 15, s.readValue r o .word, s.draws + drawsOf r 4⟩ := by
    rw [State.site, State.siteAt, here_a32 (s := s.afterRead r o .word) hp, afterRead_cfg, hp]
    rfl
  rw [decodeFault, hsite, afterRead_getX]

/-- Settles O10: a refused word is of no class, where DECODE_MODE decides, or has a fixed field violated. -/
theorem stepRefusesWord : Obligations.StepRefusesWord := by
  intro s r o reason hrun hp hT hr hc h
  have hfetch := fetchNext_a32 hp hT hr
  obtain ⟨rfl, hclass⟩ | ⟨hreason, hclass⟩ := classifyA32_refused (u := s.afterRead r o .word) hc h
  · refine ⟨fun hmode => ?_, fun hmode _ => ?_⟩
    · have hstrict : s.cfg.decodeMode = .strict := hmode.resolve_right (fun hne => hne rfl)
      rw [step_of_fetchNext_done hrun (hfetch.trans hclass), unrecognized_strict (s := s.afterRead r o .word) hstrict,
        decodeFault_afterRead hp]
    · have hkeeps : KeepsRegisters s ((s.afterRead r o .word).emit
          (.unrecognizedNoOp (s.getX 15) (s.readValue r o .word))) := ⟨rfl, rfl, rfl, rfl, rfl, rfl, rfl⟩
      rw [step_of_fetchNext_done hrun (hfetch.trans hclass), unrecognized_permissive (s := s.afterRead r o .word) hmode]
      exact ⟨_, rfl, a32Ends_writeRegs hkeeps [] .unrecognizedNoOp⟩
  · refine ⟨fun _ => ?_, fun _ heq => absurd heq hreason⟩
    rw [step_of_fetchNext_done hrun (hfetch.trans hclass), decodeFault_afterRead hp]

/-! ## A step of N8 (R202, R230, R232) -/

theorem readStream_nil {s u : State} {a : Half} {n : Nat} (h : readStream s a n = .ok ([], u)) : u = s := by
  cases n with
  | zero => cases h; rfl
  | succ n =>
    unfold readStream at h
    split at h
    · cases h
    · split at h <;> cases h

theorem readStream_cons {s u : State} {a : Half} {n : Nat} {b : Byte} {rest : List Byte}
    (h : readStream s a n = .ok (b :: rest, u)) :
    ∃ t m, s.fetch8 a = .ok (b, t) ∧ readStream t (a + 1) m = .ok (rest, u) := by
  cases n with
  | zero => cases h
  | succ n =>
    unfold readStream at h
    split at h
    · cases h
    · next b' t hb =>
      split at h
      · cases h
      · next rest' v hrest =>
        cases h
        exact ⟨t, n, hb, hrest⟩

/-- Operand bytes read one after another are what the dispatch of their opcode fetches (R202, R230). -/
theorem dispatchN8_of_makes {op : Byte} {operands : List Byte} {i : Instr} (hmakes : Makes (n8Entry op) operands i)
    {t u : State} {m : Nat} (h : readStream t (t.pc + 1) m = .ok (operands, u)) : dispatchN8 op t = .run i u := by
  unfold Makes at hmakes
  split at hmakes
  case h_5 => cases hmakes
  case h_1 he =>
    subst hmakes
    cases readStream_nil h
    simp only [dispatchN8, he]
  case h_2 f b he =>
    subst hmakes
    obtain ⟨v, _, hb, hrest⟩ := readStream_cons h
    cases readStream_nil hrest
    simp only [dispatchN8, he, fetchOperand, hb]
  case h_4 cb he =>
    subst hmakes
    obtain ⟨v, _, hb, hrest⟩ := readStream_cons h
    cases readStream_nil hrest
    simp only [dispatchN8, he, fetchOperand, hb]
  case h_3 f lo hi he =>
    subst hmakes
    obtain ⟨v, _, hlo, htail⟩ := readStream_cons h
    obtain ⟨v', _, hhi, hrest⟩ := readStream_cons htail
    cases readStream_nil hrest
    rw [BitVec.add_assoc] at hhi
    simp only [dispatchN8, he, fetchOperand16, hlo]
    rw [show t.pc + 2 = t.pc + (1 + 1) from rfl, hhi]

/-- Settles O11: the bytes are an opcode and what its entry asks for, which is what the fetch reads. -/
theorem stepRunsN8 : Obligations.StepRunsN8 := by
  intro s u n bytes i hrun hp hread hdec
  obtain ⟨op, operands, rfl, hmakes⟩ := decodeN8_eq_ok.1 hdec
  rw [List.append_nil] at hread
  obtain ⟨t, m, hop, hrest⟩ := readStream_cons hread
  obtain ⟨_, _, rfl⟩ := (Reads.refl s).fetch8 hop
  have hfetch : fetchNext s = .run i u := by
    rw [fetchNext, hp]
    simp only [fetchN8, hop]
    exact dispatchN8_of_makes hmakes hrest
  exact step_of_fetchNext_run hrun hfetch

/-! ## Words and bytes written out (R171, R200 to R205) -/

/-- Settles O1: each word and each byte string is evaluated. -/
theorem decodeSamples : Obligations.DecodeSamples := by
  unfold Obligations.DecodeSamples
  and_intros
  all_goals exact rfl

end Sys2Proof.Machine

namespace Sys2Proof.Machine

/-! ## The faults of a step (R234, R540, R541) -/

/-- A fault a step of `s` may raise: recorded with the profile, the draws made and the place, of a kind of the profile. -/
def StepRaises (s : State) (f : Fault) : Prop :=
  ∃ site, f.site = some site ∧ site.profile = s.cfg.profile ∧ s.draws ≤ site.draws ∧
    (site.addr = s.here ∨
      s.cfg.profile = .n8 ∧ (site.addr = (s.pc + 1).setWidth 32 ∨ site.addr = (s.pc + 2).setWidth 32)) ∧
    (s.cfg.profile = .a32 → f.code = 2 ∨ f.code = 4 ∨ f.code = 5) ∧
    (s.cfg.profile = .n8 → f.code = 2 ∨ f.code = 3)

/-- The fault of an instruction that runs after the reads of its fetch: no read moves the program counter. -/
theorem Raised.stepRaises {i : Instr} {s u : State} {f : Fault} (h : Raised i u f) (hi : i.profile = s.cfg.profile)
    (hu : Reads s u) : StepRaises s f := by
  obtain ⟨latch, k, rfl⟩ := hu
  obtain ⟨site, hsite, hprofile, haddr, hdraws, hcode⟩ := h
  rw [hi] at hcode
  refine ⟨site, hsite, hprofile, (Nat.le_add_right _ _).trans hdraws, .inl (haddr.trans (here_congr rfl rfl rfl)),
    fun _ => hcode.imp_right And.right, fun hn => ?_⟩
  exact .inl (hcode.resolve_right fun ⟨ha, _⟩ => nomatch hn.symm.trans ha)

/-- The fault of a step is that of its fetch, or of the instruction fetched. -/
theorem step_fault {s : State} {f : Fault} (h : step s = .fault f) : StepRaises s f := by
  have hd := fetchNext_done s
  unfold step at h
  split at h
  · split at h
    · next x hx =>
      subst h
      exact hd.fault f hx
    · next i u hx =>
      obtain ⟨hu, hi⟩ := hd.run i u hx
      exact ((exec_done i u).fault f h).stepRaises hi hu
  · cases h

/-- Settles O54: no step is refused, and its fault comes from the fetch or from the instruction it runs. -/
theorem stepOutcomes : Obligations.StepOutcomes := fun s => ⟨step_noRefusal s, fun _ => step_fault⟩

/-! ## Before any fetch (R220, R221) -/

theorem step_halted {s : State} (h : s.running = false) : step s = .next (haltedStep s) := by
  simp only [step, h, Bool.false_eq_true, if_false]

/-- Settles O8: a halted step only calls `advance`; with T = 1 the front of an A32 step faults before it reads. -/
theorem stepBeforeFetch : Obligations.StepBeforeFetch := by
  refine ⟨fun s hrun => step_halted hrun, fun s hrun hp hT => ⟨_, step_of_fetchNext_done hrun ?_, rfl, rfl⟩⟩
  rw [fetchNext, hp]
  exact if_pos hT

/-! ## An A32 word that is run or skipped (R222 to R225) -/

theorem classifyA32_run {w : Word} {u : State} {i : Instr} (hc : conditionPassed (condOf w) u.sw = true)
    (h : decodeWord w = .ok i) : classifyA32 w u = .run i u := by
  obtain ⟨hi, hformat⟩ := decodeWord_eq_ok.1 h
  simp only [classifyA32, hc, if_true, hi, hformat]

theorem classifyA32_skipped {w : Word} {u : State} (hc : conditionPassed (condOf w) u.sw = false) :
    classifyA32 w u = .done (.next (condFailed u)) := by
  simp only [classifyA32, hc, Bool.false_eq_true, if_false]

theorem KeepsRegisters.refl (s : State) : KeepsRegisters s s := ⟨rfl, rfl, rfl, rfl, rfl, rfl, rfl⟩

theorem afterRead_keepsRegisters (s : State) (r : Region) (o : Nat) (w : Width) : KeepsRegisters s (s.afterRead r o w) :=
  ⟨rfl, rfl, rfl, rfl, rfl, rfl, rfl⟩

/-- Where the condition fails R15 moves past the instruction and nothing else happens (R225). -/
theorem condFailed_ends {s u : State} (h : KeepsRegisters s u) :
    A32Ends s u (condFailed u) [] s.sw (s.cfg.cost .condFailed) := a32Ends_writeRegs h [] .condFailed

/-- Settles O9: the word fetched is run where it decodes, and skipped where its condition fails. -/
theorem stepRunsA32 : Obligations.StepRunsA32 := by
  intro s r o hrun hp hT hr
  have hfetch := fetchNext_a32 hp hT hr
  refine ⟨fun i hc hi => ?_, fun hc => ⟨_, ?_, condFailed_ends (afterRead_keepsRegisters s r o .word)⟩⟩
  · exact step_of_fetchNext_run hrun (hfetch.trans (classifyA32_run (u := s.afterRead r o .word) hc hi))
  · exact step_of_fetchNext_done hrun (hfetch.trans (classifyA32_skipped (u := s.afterRead r o .word) hc))

/-! ## Fetches that are not routed, and opcode bytes without an entry (R222, R230, R231) -/

theorem fetch_of_none {s : State} {a : Word} {w : Width} (h : route s.cfg a.toNat w.bytes = none) :
    s.fetch a w = .error (.bus (s.siteAt a) a w .read) := by
  rw [State.fetch, State.loadAt, busRead_of_none h]

theorem fetch8_of_none {s : State} {a : Half} (h : route s.cfg a.toNat 1 = none) :
    s.fetch8 a = .error (.bus (s.siteAt (a.setWidth 32)) (a.setWidth 32) .byte .read) := by
  rw [State.fetch8, fetch_of_none (w := .byte) (by rw [half_setWidth_toNat]; exact h)]

theorem fetch8_of_route {s : State} {a : Half} {r : Region} {o : Nat} (h : Routes8 s a r o) :
    s.fetch8 a = .ok (byteRead s r o, s.afterRead r o .byte) := by
  have hr : route s.cfg (a.setWidth 32 : Word).toNat Width.byte.bytes = some (r, o) := by
    rw [half_setWidth_toNat]
    exact h
  rw [State.fetch8, fetch_of_route hr, readValue_byte]
  simp

/-- The front of a step of an N8 core whose opcode byte is routed (R230). -/
theorem fetchNext_n8 {s : State} {r : Region} {o : Nat} (hp : s.cfg.profile = .n8) (hr : Routes8 s s.pc r o) :
    fetchNext s = dispatchN8 (byteRead s r o) (s.afterRead r o .byte) := by
  rw [fetchNext, hp]
  simp only [fetchN8, fetch8_of_route hr]

theorem n8Length_eq_none {op : Byte} : n8Length op = none ↔ n8Entry op = .absent := by
  unfold n8Length
  split <;> simp [*]

theorem dispatchN8_absent {op : Byte} (h : n8Entry op = .absent) (t : State) :
    dispatchN8 op t = .done (.fault (.unimplemented t.site op t.pc)) := by
  simp only [dispatchN8, h]

/-- What a fault raised after one byte read leaves of the state before it (R234). -/
theorem afterFault_byteRead {s : State} {f : Fault} {r : Region} {o : Nat} (h : f.site = some (s.afterRead r o .byte).site) :
    afterFault s f = { s with openBus := (byteRead s r o).setWidth 32, draws := s.draws + drawsOf r 1 } := by
  rw [afterFault, h, ← readValue_byte]
  rfl

/-- Settles O12: the entry of the byte is absent, so the fault is raised after that one read. -/
theorem stepUnimplemented : Obligations.StepUnimplemented := by
  intro s r o hrun hp hr hlen
  have hfetch := (fetchNext_n8 hp hr).trans (dispatchN8_absent (n8Length_eq_none.1 hlen) _)
  exact ⟨_, _, step_of_fetchNext_done hrun hfetch, rfl, afterFault_byteRead rfl⟩

/-- A stream of bytes fails at its first byte or after it. -/
theorem readStream_succ_error {s : State} {a : Half} {n : Nat} {f : Fault} (h : readStream s a (n + 1) = .error f) :
    s.fetch8 a = .error f ∨ ∃ b t, s.fetch8 a = .ok (b, t) ∧ readStream t (a + 1) n = .error f := by
  unfold readStream at h
  split at h
  · next hf =>
    cases h
    exact .inl hf
  · next b t hb =>
    split at h
    · next hrest =>
      cases h
      exact .inr ⟨b, t, hb, hrest⟩
    · cases h

theorem fetchOperand_error {t : State} {f : Fault} (h : readStream t (t.pc + 1) 1 = .error f) (k : Byte → Instr) :
    fetchOperand t k = .done (.fault f) := by
  obtain hb | ⟨_, _, _, hrest⟩ := readStream_succ_error h
  · simp only [fetchOperand, hb]
  · cases hrest

theorem fetchOperand16_error {t : State} {f : Fault} (h : readStream t (t.pc + 1) 2 = .error f) (k : Half → Instr) :
    fetchOperand16 t k = .done (.fault f) := by
  obtain hlo | ⟨lo, u, hlo, htail⟩ := readStream_succ_error h
  · simp only [fetchOperand16, hlo]
  · obtain hhi | ⟨_, _, _, hrest⟩ := readStream_succ_error htail
    · rw [BitVec.add_assoc] at hhi
      simp only [fetchOperand16, hlo]
      rw [show t.pc + 2 = t.pc + (1 + 1) from rfl, hhi]
    · cases hrest

/-- An opcode asks for the operand bytes its length counts, and the fault of their reads ends the dispatch (R202, R230). -/
theorem dispatchN8_error {op : Byte} {n : Nat} (hlen : n8Length op = some (n + 1)) {t : State} {f : Fault}
    (h : readStream t (t.pc + 1) n = .error f) : dispatchN8 op t = .done (.fault f) := by
  unfold n8Length at hlen
  split at hlen <;> cases hlen
  case h_1 => cases h
  case h_2 k he =>
    simp only [dispatchN8, he]
    exact fetchOperand_error h k
  case h_3 k he =>
    simp only [dispatchN8, he]
    exact fetchOperand16_error h k
  case h_4 he =>
    simp only [dispatchN8, he]
    exact fetchOperand_error h cbInstr

/-- Settles O13: the first read of either profile, or a later one of N8, is not routed. -/
theorem fetchFaults : Obligations.FetchFaults := by
  refine ⟨fun s hrun hp hT hr => step_of_fetchNext_done hrun ?_, fun s hrun hp hr => step_of_fetchNext_done hrun ?_,
    fun s r o n f hrun hp hr hlen hread => ?_⟩
  · rw [fetchNext, hp]
    simp only [fetchA32, hT, Bool.false_eq_true, if_false, fetch_of_none (w := .word) hr, State.siteAt, hp]
  · rw [fetchNext, hp]
    simp only [fetchN8, fetch8_of_none hr, State.siteAt, hp]
  · cases n with
    | zero => cases hread
    | succ n =>
      have hop := fetch8_of_route hr
      obtain herr | ⟨b, t, hb, hrest⟩ := readStream_succ_error hread
      · cases hop.symm.trans herr
      · cases hop.symm.trans hb
        exact step_of_fetchNext_done hrun ((fetchNext_n8 hp hr).trans (dispatchN8_error hlen hrest))

end Sys2Proof.Machine

namespace Sys2Proof.Machine

/-! ## Every A32 instruction runs behind its condition and R186 (R223 to R227) -/

/-- The instruction runs behind the condition `c` and the operand check of R186 (R223). -/
def RunsBehind (c : Cond) (i : Instr) : Prop := ∀ s, ∃ body, exec i s = a32Run c i s body

theorem dpImm_runsBehind (c : Cond) (sf : Bool) (rn rd : Reg) (o : RotImm) (op : DpOp) :
    RunsBehind c (dpImm c sf rn rd o op) := by
  cases op <;> exact fun _ => ⟨_, rfl⟩

theorem dpShift_runsBehind (c : Cond) (sf : Bool) (rn rd : Reg) (o : ShiftImm) (op : DpOp) :
    RunsBehind c (dpShift c sf rn rd o op) := by
  cases op <;> exact fun _ => ⟨_, rfl⟩

theorem dpShiftReg_runsBehind (c : Cond) (sf : Bool) (rn rd : Reg) (o : ShiftReg) (op : DpOp) :
    RunsBehind c (dpShiftReg c sf rn rd o op) := by
  cases op <;> exact fun _ => ⟨_, rfl⟩

theorem decodeDataProcessing_runsBehind (w : Word) : RunsBehind (condOf w) (decodeDataProcessing w) := by
  unfold decodeDataProcessing
  dsimp only
  split
  · exact dpImm_runsBehind _ _ _ _ _ _
  · split
    · exact dpShiftReg_runsBehind _ _ _ _ _ _
    · exact dpShift_runsBehind _ _ _ _ _ _

theorem mulLong_runsBehind (signed acc : Bool) (c : Cond) (sf : Bool) (rdHi rdLo rs rm : Reg) :
    RunsBehind c (mulLong signed acc c sf rdHi rdLo rs rm) := by
  unfold mulLong
  split <;> exact fun _ => ⟨_, rfl⟩

theorem singleImm_runsBehind (load byte p w : Bool) (c : Cond) (up : Bool) (rn rd : Reg) (imm : BitVec 12) :
    RunsBehind c (singleImm load byte p w c up rn rd imm) := by
  unfold singleImm
  split <;> exact fun _ => ⟨_, rfl⟩

theorem singleReg_runsBehind (load byte p w : Bool) (c : Cond) (up : Bool) (rn rd : Reg) (o : ShiftImm) :
    RunsBehind c (singleReg load byte p w c up rn rd o) := by
  unfold singleReg
  split <;> exact fun _ => ⟨_, rfl⟩

theorem decodeSingle_runsBehind (w : Word) : RunsBehind (condOf w) (decodeSingle w) := by
  unfold decodeSingle
  split
  · exact singleReg_runsBehind _ _ _ _ _ _ _ _ _
  · exact singleImm_runsBehind _ _ _ _ _ _ _ _ _

theorem decodeHalfword_runsBehind (w : Word) : RunsBehind (condOf w) (decodeHalfword w) := by
  unfold decodeHalfword
  dsimp only
  split <;> exact fun _ => ⟨_, rfl⟩

theorem blockOf_runsBehind (load p u : Bool) (c : Cond) (wb : Bool) (rn : Reg) (list : BitVec 16) :
    RunsBehind c (blockOf load p u c wb rn list) := by
  unfold blockOf
  split <;> exact fun _ => ⟨_, rfl⟩

/-- What a word decodes to runs behind the word's condition. -/
theorem decodeA32_runsBehind {w : Word} {i : Instr} (h : decodeA32 w = some i) : RunsBehind (condOf w) i := by
  unfold decodeA32 at h
  split at h <;> cases h
  · unfold decodeMultiply
    split <;> exact fun _ => ⟨_, rfl⟩
  · exact mulLong_runsBehind _ _ _ _ _ _ _ _
  · unfold decodeSwap
    split <;> exact fun _ => ⟨_, rfl⟩
  · exact decodeHalfword_runsBehind w
  · exact fun _ => ⟨_, rfl⟩
  · exact fun _ => ⟨_, rfl⟩
  · exact fun _ => ⟨_, rfl⟩
  · exact decodeDataProcessing_runsBehind w
  · exact fun _ => ⟨_, rfl⟩
  · exact decodeSingle_runsBehind w
  · exact blockOf_runsBehind _ _ _ _ _ _ _
  · split <;> exact fun _ => ⟨_, rfl⟩

/-- Every A32 instruction is decoded from its word, so it runs behind the condition of its word. -/
theorem exec_a32 {i : Instr} (hi : i.profile = .a32) (s : State) :
    ∃ body, exec i s = a32Run (condOf i.word) i s body :=
  decodeA32_runsBehind (decodeWord_eq_ok.1 (decodeEncodeA32 i hi)).1 s

theorem a32Run_skipped {c : Cond} {s : State} (hc : conditionPassed c s.sw = false) (i : Instr) (body : State → Result) :
    a32Run c i s body = .next (condFailed s) := by
  simp only [a32Run, hc, Bool.false_eq_true, if_false]

theorem a32Run_refused {c : Cond} {i : Instr} {s : State} {reason : DecodeReason} (hc : conditionPassed c s.sw = true)
    (h : i.encodingError = some reason) (body : State → Result) : a32Run c i s body = decodeFault s i.word reason := by
  simp only [a32Run, hc, if_true, h]

/-- Settles O14: both ends are those of `a32Run`, whatever the instruction's own effect. -/
theorem conditionAndRefusal : Obligations.ConditionAndRefusal := by
  refine ⟨fun i s hi hc => ?_, fun i s reason hi hc h => ?_⟩
  · obtain ⟨body, hexec⟩ := exec_a32 hi s
    exact ⟨_, hexec.trans (a32Run_skipped hc i body), condFailed_ends (.refl s)⟩
  · obtain ⟨body, hexec⟩ := exec_a32 hi s
    exact hexec.trans (a32Run_refused hc h body)

end Sys2Proof.Machine

namespace Sys2Proof.Machine

/-! ## N8 accesses that are not routed (R234, R421 to R424, R440, R490, R499, R542) -/

theorem site_congr {s t : State} (hc : t.cfg = s.cfg) (hx : t.x = s.x) (hp : t.pc = s.pc) (hl : t.openBus = s.openBus)
    (hd : t.draws = s.draws) : t.site = s.site := by
  rw [State.site, State.site, State.siteAt, State.siteAt, here_congr hc hx hp, hc, hl, hd]

@[simp] theorem writeByte_site (s : State) (r : Region) (o : Nat) (b : Byte) : (s.writeByte r o b).site = s.site :=
  site_congr (writeByte_cfg ..) (writeByte_x ..) (writeByte_pc ..) (writeByte_openBus ..) (writeByte_draws ..)

/-- Two byte writes one after another, of which the second is not routed. -/
theorem store8_store8_none {s : State} {a b : Half} (ha : (route s.cfg a.toNat 1).isSome)
    (hb : route s.cfg b.toNat 1 = none) (v w : Byte) : ∃ t, s.store8 a v = .ok t ∧
      t.store8 b w = .error (.bus s.site (b.setWidth 32) .byte .write) := by
  obtain ⟨⟨r, o⟩, hr⟩ := Option.isSome_iff_exists.1 ha
  refine ⟨_, store8_route v hr, ?_⟩
  rw [store8_none w (by rwa [writeByte_cfg]), writeByte_site]

theorem push16_high_none {s : State} (h : route s.cfg (s.sp - 1).toNat 1 = none) (v : Half) :
    s.push16 v = .error (.bus s.site ((s.sp - 1).setWidth 32) .byte .write) := by
  simp only [State.push16, store8_none _ h]

theorem push16_low_none {s : State} (hhigh : (route s.cfg (s.sp - 1).toNat 1).isSome)
    (hlow : route s.cfg (s.sp - 2).toNat 1 = none) (v : Half) :
    s.push16 v = .error (.bus s.site ((s.sp - 2).setWidth 32) .byte .write) := by
  obtain ⟨t, ht, herr⟩ := store8_store8_none hhigh hlow (hiByte v) (loByte v)
  simp only [State.push16, ht, herr]

theorem pop16_low_none {s : State} (h : route s.cfg s.sp.toNat 1 = none) :
    s.pop16 = .error (.bus s.site (s.sp.setWidth 32) .byte .read) := by
  simp only [State.pop16, load8_none h]

theorem pop16_high_none {s : State} {r : Region} {o : Nat} (hlow : Routes8 s s.sp r o)
    (hhigh : route s.cfg (s.sp + 1).toNat 1 = none) :
    s.pop16 = .error (.bus (s.afterRead r o .byte).site ((s.sp + 1).setWidth 32) .byte .read) := by
  simp only [State.pop16, load8_route hlow, load8_none (s := s.afterRead r o .byte) hhigh]

theorem storeSp_low_none {s : State} {a : Half} (h : route s.cfg a.toNat 1 = none) :
    storeSp a s = .fault (.bus s.site (a.setWidth 32) .byte .write) := by
  rw [storeSp, store8_none _ h, andThen_error]

theorem storeSp_high_none {s : State} {a : Half} (hlow : (route s.cfg a.toNat 1).isSome)
    (hhigh : route s.cfg (a + 1).toNat 1 = none) :
    storeSp a s = .fault (.bus s.site ((a + 1).setWidth 32) .byte .write) := by
  obtain ⟨t, ht, herr⟩ := store8_store8_none hlow hhigh (loByte s.sp) (hiByte s.sp)
  rw [storeSp, ht, andThen_ok, herr, andThen_error]

/-! ## The instructions whose first access is a push, a pop or a read of (HL) -/

theorem exec_popForms (s : State) : ∀ p ∈ popForms, exec p.1 s = pop p.2 s := by
  intro p hp
  fin_cases hp <;> rfl

theorem exec_retCcForms (s : State) : ∀ p ∈ retCcForms, exec p.1 s = retIf p.2 s := by
  intro p hp
  fin_cases hp <;> rfl

theorem exec_aluHlForms (s : State) : ∀ p ∈ aluHlForms, exec p.1 s = aluHl p.2 s := by
  intro p hp
  fin_cases hp <;> rfl

theorem exec_bitHlForms (s : State) : ∀ p ∈ bitHlForms, exec p.1 s = bitHl p.2 s := by
  intro p hp
  fin_cases hp <;> rfl

/-- CALL cc whose condition passes is a call (R519). -/
theorem callIf_passed {cc : CC} {s : State} (h : ccPassed cc s.n8.f = true) (target : Half) :
    callIf cc target s = call target 3 (.callCc true) s := if_pos h

/-- RET cc whose condition passes is a return (R521). -/
theorem retIf_passed {cc : CC} {s : State} (h : ccPassed cc s.n8.f = true) : retIf cc s = ret (.retCc true) s := if_pos h

/-- PUSH, CALL, CALL cc that passes and RST begin with a push (R423). -/
theorem exec_pushes (a16 : Half) (s : State) :
    ∀ i ∈ pushForms.map Prod.fst ++ [Instr.call_a16 a16] ++ rstForms.map Prod.fst
      ++ (callCcForms.filter (fun p => ccPassed p.2 s.n8.f)).map (fun p => p.1 a16),
    ∃ v k, exec i s = andThen (s.push16 v) k := by
  simp only [List.forall_mem_append, List.forall_mem_map, List.forall_mem_singleton, List.mem_filter]
  refine ⟨⟨⟨fun p hp => ?_, ?_⟩, fun p hp => ?_⟩, fun p ⟨hp, hc⟩ => ?_⟩
  · exact ⟨_, _, exec_pushForms s p hp⟩
  · exact ⟨_, _, rfl⟩
  · exact ⟨_, _, exec_rstForms s p hp⟩
  · exact ⟨_, _, (exec_callCcForms a16 s p hp).trans (callIf_passed hc a16)⟩

/-- POP, RET and RET cc that passes begin with a pop (R424). -/
theorem exec_pops (s : State) :
    ∀ i ∈ popForms.map Prod.fst ++ [Instr.ret] ++ (retCcForms.filter (fun p => ccPassed p.2 s.n8.f)).map Prod.fst,
    ∃ k, exec i s = andThen s.pop16 k := by
  simp only [List.forall_mem_append, List.forall_mem_map, List.forall_mem_singleton, List.mem_filter]
  refine ⟨⟨fun p hp => ?_, ?_⟩, fun p ⟨hp, hc⟩ => ?_⟩
  · exact ⟨_, exec_popForms s p hp⟩
  · exact ⟨_, rfl⟩
  · exact ⟨_, (exec_retCcForms s p hp).trans (retIf_passed hc)⟩

/-- The instructions with the operand (HL) begin with its read (R238, R440, R499). -/
theorem exec_readsHl (s : State) :
    ∀ i ∈ aluHlForms.map Prod.fst ++ [Instr.inc_mhl, .dec_mhl] ++ cbRotHlForms.map Prod.fst
      ++ bitHlForms.map Prod.fst ++ resHlForms.map Prod.fst ++ setHlForms.map Prod.fst,
    ∃ k, exec i s = andThen (s.load8 (s.getPair .hl)) k := by
  simp only [List.forall_mem_append, List.forall_mem_map, List.forall_mem_cons]
  refine ⟨⟨⟨⟨⟨fun p hp => ?_, ?_, ?_, List.forall_mem_nil _⟩, fun p hp => ?_⟩, fun p hp => ?_⟩, fun p hp => ?_⟩,
    fun p hp => ?_⟩
  · exact ⟨_, exec_aluHlForms s p hp⟩
  · exact ⟨_, rfl⟩
  · exact ⟨_, rfl⟩
  · exact ⟨_, exec_cbRotHlForms s p hp⟩
  · exact ⟨_, exec_bitHlForms s p hp⟩
  · exact ⟨_, exec_resHlForms s p hp⟩
  · exact ⟨_, exec_setHlForms s p hp⟩

/-- Settles O39: each instruction ends in the fault of the first of its accesses that is not routed. -/
theorem stackFaults : Obligations.StackFaults := by
  refine ⟨fun a16 s i hi => ?_, fun s i hi => ?_, fun a16 s => ⟨storeSp_low_none, storeSp_high_none⟩,
    fun s i hi hr => ?_⟩
  · obtain ⟨v, k, hexec⟩ := exec_pushes a16 s i hi
    rw [hexec]
    exact ⟨fun hr => by rw [push16_high_none hr, andThen_error],
      fun hhigh hlow => by rw [push16_low_none hhigh hlow, andThen_error]⟩
  · obtain ⟨k, hexec⟩ := exec_pops s i hi
    rw [hexec]
    exact ⟨fun hr => by rw [pop16_low_none hr, andThen_error],
      fun r o hlow hhigh => by rw [pop16_high_none hlow hhigh, andThen_error]⟩
  · obtain ⟨k, hexec⟩ := exec_readsHl s i hi
    rw [hexec, load8_none hr, andThen_error]

end Sys2Proof.Machine

namespace Sys2Proof.Machine

/-! ## How a run ends (R240) -/

/-- One more step that does not end the run. -/
theorem RunsOn.snoc {n : Nat} {s t u : State} (h : RunsOn n s t) (hrun : t.running = true) (hstep : step t = .next u)
    (hgoes : ¬(u.running = true ∧ u.programCounter = t.programCounter)) : RunsOn (n + 1) s u := by
  induction n generalizing s with
  | zero =>
    cases h
    exact ⟨u, hrun, hstep, hgoes, rfl⟩
  | succ n ih =>
    obtain ⟨v, hv, hsv, hgo, hrest⟩ := h
    exact ⟨v, hv, hsv, hgo, ih hrest⟩

/-- A run that has come to `s` in `k` steps none of which ended it ends as `RunEnds` says of all of its steps. -/
theorem runFrom_ends {start : State} (fuel : Nat) (bound : Option Nat) (k : Nat) (s : State) (h : RunsOn k start s) :
    RunEnds start (runFrom fuel bound k s).1 (runFrom fuel bound k s).2 := by
  fun_induction runFrom fuel bound k s with
  | case1 => exact h
  | case2 fuel bound k s hhalt => exact ⟨h, by simpa using hhalt⟩
  | case3 fuel k s hrun => exact ⟨h, by simpa using hrun⟩
  | case4 fuel bound k s hrun _ f hstep => exact ⟨s, h, by simpa using hrun, hstep, rfl⟩
  | case5 fuel bound k s _ _ r hstep => exact step_noRefusal s r hstep
  | case6 fuel bound k s hrun _ t hstep hloop =>
    obtain ⟨htrun, hpc⟩ : t.running = true ∧ t.programCounter = s.programCounter := by simpa using hloop
    exact ⟨k, s, rfl, h, by simpa using hrun, hstep, rfl, hpc, htrun⟩
  | case7 fuel bound k s hrun _ t hstep hgoes ih =>
    exact ih (h.snoc (by simpa using hrun) hstep (by simpa using hgoes))

/-- What each end of a run with a bound says of the steps counted. -/
def WithinBound (bound : Nat) : RunEnd → Prop
  | .halted k => k ≤ bound
  | .boundReached k => k = bound
  | .selfLoop k _ => k ≤ bound
  | .fault k _ => k < bound
  | .refused _ _ => False
  | .outOfFuel _ => False

theorem lt_of_bound_ne {b k : Nat} {bound : Option Nat} (hbound : some b = bound) (hne : ¬bound = some k) (hk : k ≤ b) :
    k < b :=
  Nat.lt_of_le_of_ne hk fun heq => hne (by rw [← hbound, heq])

/-- With a round more than the steps left up to the bound, the run ends within it. -/
theorem runFrom_withinBound {b : Nat} (fuel k : Nat) (s : State) (hfuel : k + fuel = b + 1) (hk : k ≤ b) :
    WithinBound b (runFrom fuel (some b) k s).1 := by
  generalize hbound : some b = bound
  fun_induction runFrom fuel bound k s with
  | case1 => omega
  | case2 => exact hk
  | case3 => exact (Option.some.inj hbound).symm
  | case4 _ _ k _ _ hne => exact lt_of_bound_ne hbound hne hk
  | case5 _ _ _ s _ _ r hstep => exact step_noRefusal s r hstep
  | case6 _ _ k _ _ hne => exact lt_of_bound_ne hbound hne hk
  | case7 fuel _ k _ _ hne _ _ _ ih =>
    exact ih (by omega) (lt_of_bound_ne hbound hne hk) hbound

/-- Without a bound no bound is reached, and where the rounds run out all of them were steps. -/
theorem runFrom_unbounded (fuel k : Nat) (s : State) :
    (∀ n, (runFrom fuel none k s).1 ≠ .boundReached n) ∧ ∀ n, (runFrom fuel none k s).1 = .outOfFuel n → n = k + fuel := by
  generalize hbound : none = bound
  fun_induction runFrom fuel bound k s with
  | case1 => exact ⟨nofun, fun n hn => (RunEnd.outOfFuel.inj hn).symm⟩
  | case3 => cases hbound
  | case7 fuel _ k _ _ _ _ _ _ ih =>
    obtain ⟨hno, hout⟩ := ih hbound
    exact ⟨hno, fun n hn => by rw [hout n hn, Nat.add_assoc, Nat.add_comm 1]⟩
  | _ => exact ⟨nofun, nofun⟩

/-- Settles O60: what a run has done when it ends, and the steps it counts, both by induction over its rounds. -/
theorem runBoundEnds : Obligations.RunBoundEnds := by
  refine ⟨fun bound s => ⟨runFrom_ends _ _ 0 s rfl, ?_⟩, fun fuel s => ⟨runFrom_ends _ _ 0 s rfl, ?_⟩⟩
  · exact runFrom_withinBound (bound + 1) 0 s (Nat.zero_add _) (Nat.zero_le _)
  · obtain ⟨hno, hout⟩ := runFrom_unbounded fuel 0 s
    exact ⟨hno, fun k hk => (hout k hk).trans (Nat.zero_add fuel)⟩

end Sys2Proof.Machine

namespace Sys2Proof.Machine

/-! ## The branches (R260 to R263) -/

/-- Fields placed side by side are their concatenation placed once (R171). -/
theorem put_append {m n : Nat} (lo : Nat) (hi : BitVec m) (low : BitVec n) :
    put lo (hi ++ low) = put (lo + n) hi ||| put lo low := by
  refine BitVec.eq_of_getLsbD_eq fun i hw => ?_
  simp only [BitVec.getLsbD_or, put_getLsbD, BitVec.getLsbD_append, hw]
  rcases Nat.lt_or_ge (i - lo) n with hlow | hhi
  · simp [hlow, show ¬ lo + n ≤ i by omega]
  · rw [if_neg (Nat.not_lt.2 hhi), BitVec.getLsbD_of_ge low _ hhi, Nat.sub_sub]
    have hle : lo ≤ i ↔ lo + n ≤ i := by omega
    simp [hle]

theorem put_zero_word (w : Word) : put 0 w = w := by simp [put]

/-- A branch word, field by field (R171). -/
theorem encB_eq_append (link : Bool) (c : Cond) (off : BitVec 24) :
    encB link c off = c.code ++ (0b101#3 ++ BitVec.ofBool link) ++ off := by
  rw [← put_zero_word (c.code ++ (0b101#3 ++ BitVec.ofBool link) ++ off), put_append, put_append, put_append,
    ← BitVec.or_assoc]
  rfl

/-- The shift of `BranchTarget` is a multiplication by four (R260). -/
theorem signExtend_shiftLeft_two (off : BitVec 24) :
    off.signExtend 32 <<< 2 = BitVec.ofInt 32 (4 * off.toInt) := by
  rw [BitVec.ofInt_mul, BitVec.mul_comm]
  exact BitVec.shiftLeft_eq_mul_twoPow _ 2

/-- `BranchTarget` in integers (R260); the model's 8 is a cast number, which `rfl` reads. -/
theorem branchTarget_eq (s : State) (off : BitVec 24) :
    branchTarget s off = s.getX 15 + 8 + BitVec.ofInt 32 (4 * off.toInt) := by
  rw [branchTarget, signExtend_shiftLeft_two]
  rfl

/-- Where R15 is written last, what it held before does not matter. -/
theorem regAfter_writesPc (t : Bool) (writes : List (Reg × Word)) (target old : Word) :
    regAfter t (writes ++ [(15, target)]) 15 old = maskPc t target := regAfter_append ..

/-- An instruction that writes R15 last ends the same with and without the advance past it (R48). -/
theorem a32Ends_writesPc (s : State) (sw : Word) (writes : List (Reg × Word)) (target : Word) (row : CostRow) :
    A32Ends s s ((writeRegs { s with sw := sw } (writes ++ [(15, target)])).retire row) (writes ++ [(15, target)]) sw
      (s.cfg.cost row) := by
  refine a32Ends_retire s s _ _ sw row (fun r => ?_) (writeRegs_sw ..) (writeRegs_mem ..) (writeRegs_openBus ..)
    (writeRegs_draws ..) (writeRegs_events ..) (writeRegs_n8 ..) (writeRegs_sp ..) (writeRegs_pc ..) (writeRegs_running ..)
    (writeRegs_cfg ..)
  rw [writeRegs_getX _ { s with sw := sw } r (s.getX r) rfl]
  by_cases hr : r = 15
  · subst hr
    rw [regAfter_writesPc, regAfter_writesPc]
  · rw [if_neg hr]

/-- An A32 instruction whose effect is a list of register writes with R15 last, under the status word they see. -/
theorem a32Completes_writesPc {c : Cond} {i : Instr} {s : State} {body : State → Result} {sw : Word}
    {writes : List (Reg × Word)} {target : Word} {row : CostRow} (hc : conditionPassed c s.sw = true)
    (hw : wellFormed i = true) (hexec : exec i s = a32Run c i s body)
    (hbody : body s = complete row (writeRegs { s with sw := sw } (writes ++ [(15, target)]))) :
    A32Completes i s s (writes ++ [(15, target)]) sw row :=
  ⟨_, by rw [hexec, a32Run_passed hc hw, hbody, complete], a32Ends_writesPc s sw writes target row⟩

/-- Settles O23: B writes R15, BL writes R14 and then R15. -/
theorem branches : Obligations.Branches := by
  intro c off s
  refine ⟨encB_eq_append false c off, encB_eq_append true c off, fun hc => ?_⟩
  rw [← branchTarget_eq]
  exact ⟨a32Completes_writesPc (writes := []) (body := branch off) hc rfl rfl rfl,
    a32Completes_writesPc (writes := [(14, s.getX 15 + 4)]) (body := branchLink off) hc rfl rfl rfl⟩

/-- The one status bit BX writes is T (R64, R263). -/
theorem setBit_five_eq (sw : Word) (t : Bool) :
    setBit sw 5 t = if t then sw ||| 0x00000020 else sw &&& 0xFFFFFFDF := rfl

/-- Settles O24: BX writes T, then R15, which `WritePC` masks by the new T. -/
theorem branchExchange_completes : Obligations.BranchExchange := by
  intro c rm s hc
  rw [← setBit_five_eq]
  exact a32Completes_writesPc (writes := []) (body := branchExchange rm) hc rfl rfl rfl

end Sys2Proof.Machine

namespace Sys2Proof.Machine

/-! ## Data processing: results and flags (R283 to R300) -/

/-- What an arithmetic operation answers, from its exact unsigned value `u`, its exact signed value `v` and its carry
(R283, R284). -/
def arithResult (u v : Int) (carry : Bool) : DpOut :=
  ⟨BitVec.ofInt 32 u,
    { n := some (BitVec.ofInt 32 u).msb, z := some (decide (u % 2 ^ 32 = 0)), c := some carry,
      v := some (decide (v < -2 ^ 31 ∨ 2 ^ 31 ≤ v)) }⟩

theorem ofInt_eq_zero_iff (u : Int) : BitVec.ofInt 32 u = 0 ↔ u % 2 ^ 32 = 0 := by
  rw [← BitVec.toNat_inj, BitVec.toNat_ofInt]
  simp only [BitVec.ofNat_eq_ofNat, BitVec.toNat_ofNat]
  omega

/-- A signed value differs from its 32 bits read as a signed number exactly where it does not fit. -/
theorem ne_toInt_ofInt_iff (v : Int) : v ≠ (BitVec.ofInt 32 v).toInt ↔ v < -2 ^ 31 ∨ 2 ^ 31 ≤ v := by
  rw [BitVec.toInt_ofInt, Int.bmod_def]
  split <;> omega

/-- `AddWithCarry` (R284) from the exact signed sum, and an unsigned value that agrees with the exact unsigned sum modulo 2^32. -/
theorem arithOut_addWithCarry {x y : Word} {c : Bool} {u v : Int} {carry : Bool} (hv : x.toInt + y.toInt + c.toNat = v)
    (hu : ((x.toNat + y.toNat + c.toNat : Nat) : Int) % 2 ^ 32 = u % 2 ^ 32)
    (hcarry : decide (2 ^ 32 ≤ x.toNat + y.toNat + c.toNat) = carry) :
    arithOut (addWithCarry x y c) = arithResult u v carry := by
  have hvalue : BitVec.ofNat 32 (x.toNat + y.toNat + c.toNat) = BitVec.ofInt 32 u := by
    rw [← BitVec.toNat_inj, BitVec.toNat_ofInt, BitVec.toNat_ofNat]
    omega
  have hsigned : BitVec.ofNat 32 (x.toNat + y.toNat + c.toNat) = BitVec.ofInt 32 v := by
    rw [← hv, BitVec.ofInt_add, BitVec.ofInt_add, BitVec.ofNat_add, BitVec.ofNat_add]
    simp
  have hoverflow : decide (v ≠ (BitVec.ofNat 32 (x.toNat + y.toNat + c.toNat)).toInt) =
      decide (v < -2 ^ 31 ∨ 2 ^ 31 ≤ v) := by rw [hsigned, decide_eq_decide, ne_toInt_ofInt_iff]
  rw [arithOut, addWithCarry, hv, hoverflow, hvalue, ← hcarry, arithResult, ← decide_eq_decide.2 (ofInt_eq_zero_iff u),
    BitVec.msb_eq_getLsbD_last]
  rfl

theorem arithOut_sum (x y : Word) (c : Bool) : arithOut (addWithCarry x y c) =
    arithResult ((x.toNat : Int) + y.toNat + c.toNat) (x.toInt + y.toInt + c.toNat)
      (decide ((2 : Int) ^ 32 ≤ (x.toNat : Int) + y.toNat + c.toNat)) :=
  arithOut_addWithCarry rfl (by push_cast; rfl) (decide_eq_decide.2 (by norm_cast))

/-- Adding a complement subtracts, with the carry as the negated borrow (R287). -/
theorem arithOut_difference (x y : Word) (c : Bool) : arithOut (addWithCarry x (~~~y) c) =
    arithResult ((x.toNat : Int) - y.toNat - (!c).toNat) (x.toInt - y.toInt - (!c).toNat)
      (decide ((0 : Int) ≤ (x.toNat : Int) - y.toNat - (!c).toNat)) := by
  have hborrow : c.toNat + (!c).toNat = 1 := by cases c <;> rfl
  have hnot : (~~~y).toNat + y.toNat + 1 = 2 ^ 32 := by
    rw [BitVec.toNat_not]
    omega
  have hnotInt : (~~~y).toInt = -y.toInt - 1 := by
    simp only [BitVec.toInt_eq_toNat_cond, BitVec.toNat_not]
    omega
  refine arithOut_addWithCarry ?_ ?_ (decide_eq_decide.2 ?_) <;> omega

theorem arithOut_sum_noCarry (x y : Word) : arithOut (addWithCarry x y false) =
    arithResult ((x.toNat : Int) + y.toNat) (x.toInt + y.toInt) (decide ((2 : Int) ^ 32 ≤ (x.toNat : Int) + y.toNat)) := by
  simpa using arithOut_sum x y false

theorem arithOut_difference_noBorrow (x y : Word) : arithOut (addWithCarry x (~~~y) true) =
    arithResult ((x.toNat : Int) - y.toNat) (x.toInt - y.toInt) (decide ((0 : Int) ≤ (x.toNat : Int) - y.toNat)) := by
  simpa using arithOut_difference x y true

/-- Settles O20: each operation is an `AddWithCarry`, the differences with one operand complemented. -/
theorem arithmeticResults : Obligations.ArithmeticResults := by
  intro n o shC c op u v hmem
  fin_cases hmem
  · exact arithOut_difference_noBorrow n o
  · exact arithOut_difference_noBorrow o n
  · exact arithOut_sum_noCarry n o
  · exact arithOut_sum n o c
  · exact arithOut_difference n o c
  · exact arithOut_difference o n c
  · exact arithOut_difference_noBorrow n o
  · exact arithOut_sum_noCarry n o

theorem logicalOut_flags (value : Word) (shC : Bool) : (logicalOut value shC).flags =
    { n := some value.msb, z := some (decide (value = 0)), c := some shC, v := none } := by
  rw [BitVec.msb_eq_getLsbD_last]
  rfl

/-- Settles O21: each operation is a `logicalOut` of a value known bit by bit. -/
theorem logicalResults : Obligations.LogicalResults := by
  intro n o shC c op f hmem
  suffices hout : ∃ value, dpCompute op n o shC c = logicalOut value shC ∧
      ∀ j, j < 32 → value.getLsbD j = f (n.getLsbD j) (o.getLsbD j) by
    obtain ⟨value, heq, hbits⟩ := hout
    rw [heq]
    exact ⟨hbits, logicalOut_flags value shC⟩
  fin_cases hmem
  all_goals refine ⟨_, rfl, fun j hj => ?_⟩
  · exact BitVec.getLsbD_and
  · exact BitVec.getLsbD_xor
  · exact BitVec.getLsbD_and
  · exact BitVec.getLsbD_xor
  · exact BitVec.getLsbD_or
  · rfl
  · simp [hj]
  · simp [hj]

/-! ## Data processing: the instructions (R280 to R283) -/

/-- A compare sets the flags whatever S says and has no Rd; a move has no first operand (R283). -/
theorem exec_dpImm (c : Cond) (sf : Bool) (rn rd : Reg) (o : RotImm) (op : DpOp) (s : State) :
    exec (dpImm c sf rn rd o op) s = a32Run c (dpImm c sf rn rd o op) s
      (dataProc op (op.isCompare || sf) rd (s.readReg rn) (rotImmOperand o s) false) := by
  cases op <;> rfl

theorem exec_dpShift (c : Cond) (sf : Bool) (rn rd : Reg) (o : ShiftImm) (op : DpOp) (s : State) :
    exec (dpShift c sf rn rd o op) s = a32Run c (dpShift c sf rn rd o op) s
      (dataProc op (op.isCompare || sf) rd (s.readReg rn) (shiftImmOperand o s) false) := by
  cases op <;> rfl

theorem exec_dpShiftReg (c : Cond) (sf : Bool) (rn rd : Reg) (o : ShiftReg) (op : DpOp) (s : State) :
    exec (dpShiftReg c sf rn rd o op) s = a32Run c (dpShiftReg c sf rn rd o op) s
      (dataProc op (op.isCompare || sf) rd (s.readReg rn) (shiftRegOperand o s) true) := by
  cases op <;> rfl

/-- `SetFlags` at the end of an instruction changes the status word only; T, by which R15 was masked, is as it was (R73). -/
theorem A32Ends.setFlagsA32 {s u t : State} {writes : List (Reg × Word)} {sw : Word} {cycles : Nat}
    (h : A32Ends s u t writes sw cycles) (f : FlagsA32) :
    A32Ends s u (t.setFlagsA32 f) writes (Machine.setFlagsA32 sw f) cycles where
  regs r := by rw [flagT_setFlagsA32, setFlagsA32_getX, h.regs]
  status := by rw [setFlagsA32_sw, h.status]
  memory := h.memory
  latch := h.latch
  draws := h.draws
  events := h.events
  n8 := h.n8
  sp := h.sp
  pc := h.pc
  running := h.running
  setup := h.setup

/-- The common path of R283 writes Rd unless the operation is a compare, then the flags where S = 1. -/
theorem dataProc_ends (op : DpOp) (sf : Bool) (rd : Reg) (n : Word) (x : Shifted) (byReg : Bool) (s : State) :
    ∃ t, dataProc op sf rd n x byReg s = .next t ∧
      A32Ends s s t (if op.isCompare then [] else [(rd, (dpCompute op n x.value x.carry (flagC s.sw)).value)])
        (if sf then setFlagsA32 s.sw (dpCompute op n x.value x.carry (flagC s.sw)).flags else s.sw)
        (s.cfg.cost (.dataProc byReg (!op.isCompare && rd == 15))) := by
  refine ⟨_, rfl, ?_⟩
  have hends (writes : List (Reg × Word)) := a32Ends_writeRegs (.refl s) writes
  cases op.isCompare <;> cases sf
  · exact hends [(rd, _)] _
  · exact (hends [(rd, _)] _).setFlagsA32 _
  · exact hends [] _
  · exact (hends [] _).setFlagsA32 _

/-- Settles O22: each of the three forms is `dataProc` of its operand behind the condition. -/
theorem dataProcessing : Obligations.DataProcessing := by
  intro op c sf rn rd o o' o'' s i x byReg hmem hc hw
  have hexec : exec i s = a32Run c i s (dataProc op (op.isCompare || sf) rd (s.readReg rn) x byReg) := by
    fin_cases hmem
    · exact exec_dpImm c sf rn rd o op s
    · exact exec_dpShift c sf rn rd o' op s
    · exact exec_dpShiftReg c sf rn rd o'' op s
  obtain ⟨t, ht, hends⟩ := dataProc_ends op (op.isCompare || sf) rd (s.readReg rn) x byReg s
  rw [Bool.or_comm op.isCompare sf] at hends
  exact ⟨t, by rw [hexec, a32Run_passed hc hw, ht], hends⟩

end Sys2Proof.Machine

namespace Sys2Proof.Machine

/-! ## The multiplies (R331 to R337) -/

/-- Draws made beside an instruction's accesses change only the count of the draws (log 5). -/
theorem A32Ends.withDraws {s u t : State} {writes : List (Reg × Word)} {sw : Word} {cycles : Nat}
    (h : A32Ends s u t writes sw cycles) (k : Nat) :
    A32Ends s { u with draws := k } { t with draws := k } writes sw cycles :=
  { h with draws := rfl }

/-- The end every multiply has: its registers, then with S = 1 its flags and the draws they take (R331). -/
theorem a32Ends_flagsAndDraws (s : State) (sf : Bool) (writes : List (Reg × Word)) (f : FlagsA32) (n : Nat)
    (row : CostRow) :
    A32Ends s { s with draws := if sf then s.draws + n else s.draws }
      ((if sf then { (writeRegs s.advance4 writes).setFlagsA32 f with draws := s.draws + n }
        else writeRegs s.advance4 writes).retire row)
      writes (if sf then setFlagsA32 s.sw f else s.sw) (s.cfg.cost row) := by
  have hends := a32Ends_writeRegs (.refl s) writes row
  cases sf
  · exact hends
  · exact (hends.setFlagsA32 f).withDraws (s.draws + n)

theorem mulFlags_eq (v : Word) (k : Nat) :
    mulFlags v k = { n := some v.msb, z := some (v == 0), c := some (Config.mulFlag k), v := none } := by
  rw [BitVec.msb_eq_getLsbD_last]
  rfl

theorem ofInt_eq_zero_iff_emod {w : Nat} (p : Int) : BitVec.ofInt w p = 0 ↔ p % 2 ^ w = 0 := by
  have hpos : 0 ≤ p % 2 ^ w := Int.emod_nonneg p (by positivity)
  rw [← BitVec.toNat_inj, BitVec.toNat_ofInt, BitVec.ofNat_eq_ofNat, BitVec.toNat_zero]
  push_cast
  omega

theorem mulLongFlags_ofInt (p : Int) (k : Nat) : mulLongFlags (BitVec.ofInt 64 p) k =
    { n := some (BitVec.ofInt 64 p).msb, z := some (decide (p % 2 ^ 64 = 0)), c := some (Config.mulFlag k),
      v := some (Config.mulFlag (k + 1)) } := by
  rw [BitVec.msb_eq_getLsbD_last, ← decide_eq_decide.2 (ofInt_eq_zero_iff_emod p)]
  rfl

/-- MUL and MLA, from their value: Rd, then the flags and the one draw where S = 1 (R331 to R333). -/
theorem multiply_completes {c : Cond} {i : Instr} {s : State} {sf : Bool} {rd : Reg} {v : Word} {row : CostRow}
    (hc : conditionPassed c s.sw = true) (hw : wellFormed i = true)
    (hexec : exec i s = a32Run c i s (multiply sf rd v row)) :
    A32Completes i s { s with draws := if sf then s.draws + 1 else s.draws } [(rd, v)]
      (if sf then setFlagsA32 s.sw
        { n := some v.msb, z := some (v == 0), c := some (Config.mulFlag s.draws), v := none } else s.sw) row := by
  rw [← mulFlags_eq]
  exact ⟨_, hexec.trans (a32Run_passed hc hw), a32Ends_flagsAndDraws s sf [(rd, v)] _ 1 row⟩

/-- The long multiplies, from their value: RdLo and RdHi, then the flags and the two draws where S = 1 (R331, R334 to
R337). -/
theorem multiplyLong_completes {c : Cond} {i : Instr} {s : State} {sf : Bool} {hi lo : Reg} {p : Int} {row : CostRow}
    (hc : conditionPassed c s.sw = true) (hw : wellFormed i = true)
    (hexec : exec i s = a32Run c i s (multiplyLong sf hi lo (BitVec.ofInt 64 p) row)) :
    A32Completes i s { s with draws := if sf then s.draws + 2 else s.draws }
      [(lo, (BitVec.ofInt 64 p).extractLsb' 0 32), (hi, (BitVec.ofInt 64 p).extractLsb' 32 32)]
      (if sf then setFlagsA32 s.sw
        { n := some (BitVec.ofInt 64 p).msb, z := some (decide (p % 2 ^ 64 = 0)), c := some (Config.mulFlag s.draws),
          v := some (Config.mulFlag (s.draws + 1)) } else s.sw) row := by
  rw [← mulLongFlags_ofInt]
  exact ⟨_, hexec.trans (a32Run_passed hc hw), a32Ends_flagsAndDraws s sf [(lo, _), (hi, _)] _ 2 row⟩

/-- The low word of a product is the product of the words (R332). -/
theorem ofNat_toNat_mul (x y : Word) : BitVec.ofNat 32 (x.toNat * y.toNat) = x * y := by
  rw [BitVec.ofNat_mul, BitVec.ofNat_toNat, BitVec.ofNat_toNat, BitVec.setWidth_eq, BitVec.setWidth_eq]

/-- The product and the addend of MLA, reduced together or one by one (R333). -/
theorem ofNat_toNat_mul_add (x y z : Word) : BitVec.ofNat 32 (x.toNat * y.toNat + z.toNat) = x * y + z := by
  rw [BitVec.ofNat_add, ofNat_toNat_mul, BitVec.ofNat_toNat, BitVec.setWidth_eq]

theorem longProduct_unsigned (x y : Word) : longProduct false x y = BitVec.ofInt 64 ((x.toNat : Int) * y.toNat) := by
  rw [← Nat.cast_mul, BitVec.ofInt_natCast]
  rfl

theorem longProduct_signed (x y : Word) : longProduct true x y = BitVec.ofInt 64 (x.toInt * y.toInt) := rfl

theorem ofInt_toNat (x : Word) : BitVec.ofInt 32 x.toNat = x := by
  rw [BitVec.ofInt_natCast, BitVec.ofNat_toNat, BitVec.setWidth_eq]

/-- `RdHi:RdLo` modulo 2^64, whether the high word is read as unsigned or as signed (R335, R337). -/
theorem hiLo_eq_ofInt {hi : Word} {h : Int} (hh : BitVec.ofInt 32 h = hi) (lo : Word) :
    hiLo hi lo = BitVec.ofInt 64 (h * 2 ^ 32 + lo.toNat) := by
  have hhigh : (hi.toNat : Int) = h % 2 ^ 32 := by
    rw [← hh, BitVec.toNat_ofInt]
    omega
  rw [hiLo, ← BitVec.toNat_inj, BitVec.toNat_append, BitVec.toNat_ofInt, ← Nat.shiftLeft_add_eq_or_of_lt lo.isLt,
    Nat.shiftLeft_eq]
  omega

/-- Settles O25: behind the condition MUL and MLA are `multiply`, the others `multiplyLong`, of the exact value reduced; an
admitted operand is not R15, so it is read as it stands. -/
theorem multiplies : Obligations.Multiplies := by
  refine ⟨fun c sf rd rn rs rm s i v row hmem hc hw => multiply_completes hc hw ?_,
    fun c sf hi lo rs rm s i p row hmem hc hw => multiplyLong_completes hc hw ?_⟩
  · fin_cases hmem
    · obtain ⟨-, -, hrs, hrm, -⟩ := mulError_eq_none.1 (wellFormed_iff.1 hw)
      rw [ofNat_toNat_mul, ← readReg_of_ne hrs, ← readReg_of_ne hrm]
      rfl
    · obtain ⟨-, hrn, hrs, hrm, -⟩ := mulError_eq_none.1 (wellFormed_iff.1 hw)
      rw [ofNat_toNat_mul_add, ← readReg_of_ne hrn, ← readReg_of_ne hrs, ← readReg_of_ne hrm]
      rfl
  · have herr : mulLongError hi lo rs rm = none := by
      fin_cases hmem <;> exact wellFormed_iff.1 hw
    obtain ⟨hhi, hlo, hrs, hrm, -⟩ := mulLongError_eq_none.1 herr
    rw [← readReg_of_ne hrs, ← readReg_of_ne hrm, ← readReg_of_ne hhi, ← readReg_of_ne hlo] at hmem
    fin_cases hmem
    · rw [← longProduct_unsigned]
      rfl
    · rw [BitVec.ofInt_add, ← longProduct_unsigned, ← hiLo_eq_ofInt (ofInt_toNat _)]
      rfl
    · rfl
    · rw [BitVec.ofInt_add, ← longProduct_signed, ← hiLo_eq_ofInt BitVec.ofInt_toInt]
      rfl

end Sys2Proof.Machine

namespace Sys2Proof.Machine

/-! ## The status transfers (R350 to R353) -/

/-- Bit k of the field mask selects byte k (R352). -/
theorem fieldMask_getLsbD (mask : BitVec 4) {j : Nat} (hj : j < 32) :
    (fieldMask mask).getLsbD j = mask.getLsbD (j / 8) := by
  revert mask j
  decide

/-- `StatusWrite` bit by bit: the selected bytes of `v`, but never T (R64, R352). -/
theorem statusWrite_getLsbD (sw : Word) (mask : BitVec 4) (v : Word) {j : Nat} (hj : j < 32) :
    (statusWrite sw mask v).getLsbD j =
      if j ≠ 5 ∧ mask.getLsbD (j / 8) = true then v.getLsbD j else sw.getLsbD j := by
  rw [statusWrite, setBit_getLsbD]
  by_cases h5 : j = 5
  · simp [h5, flagT]
  · simp only [BitVec.getLsbD_or, BitVec.getLsbD_and, BitVec.getLsbD_not, fieldMask_getLsbD mask hj]
    cases mask.getLsbD (j / 8) <;> simp [h5, hj]

/-- M[4:0] lies in the byte that bit 0 of the field mask selects (R63, R352). -/
theorem modeBits_statusWrite (sw : Word) (mask : BitVec 4) (v : Word) :
    modeBits (statusWrite sw mask v) = if mask.getLsbD 0 then modeBits v else modeBits sw := by
  refine BitVec.eq_of_getLsbD_eq fun j hj => ?_
  have hbyte : j / 8 = 0 := by omega
  have hbit : (modeBits (statusWrite sw mask v)).getLsbD j = (statusWrite sw mask v).getLsbD j := by
    simp [modeBits, hj]
  rw [hbit, statusWrite_getLsbD sw mask v (by omega), hbyte]
  cases mask.getLsbD 0 <;> simp [modeBits, hj, show j ≠ 5 by omega]

/-- A status word written at the end of an instruction changes nothing else where T, by which R15 was masked, is kept. -/
theorem A32Ends.withStatus {s u t : State} {writes : List (Reg × Word)} {sw new : Word} {cycles : Nat}
    (h : A32Ends s u t writes sw cycles) (hT : flagT new = flagT sw) :
    A32Ends s u { t with sw := new } writes new cycles :=
  { h with
    regs := by rw [hT]; exact h.regs
    status := rfl }

/-- `StatusWrite` where M[4:0] is as it was completes, and no register but R15 moves (R352). -/
theorem moveToStatus_ends {mask : BitVec 4} {v : Word} {s : State}
    (hM : modeBits (statusWrite s.sw mask v) = modeBits s.sw) :
    ∃ t, moveToStatus mask v s = .next t ∧ A32Ends s s t [] (statusWrite s.sw mask v) (s.cfg.cost .msr) :=
  ⟨_, if_pos hM, (a32Ends_writeRegs (.refl s) [] .msr).withStatus (flagT_statusWrite s.sw mask v)⟩

/-- `StatusWrite` where M[4:0] would change faults with the mode asked for (R352). -/
theorem moveToStatus_fault {mask : BitVec 4} {v : Word} {s : State}
    (hM : modeBits (statusWrite s.sw mask v) ≠ modeBits s.sw) :
    moveToStatus mask v s = .fault (.invalidMode s.site (.mode (modeBits (statusWrite s.sw mask v)))) := if_neg hM

/-- Settles O26: MRS is one register write; both forms of MSR are `moveToStatus` behind the condition, where the new M[4:0] is that
of the value or, unselected, the old one. -/
theorem statusTransfers : Obligations.StatusTransfers := by
  intro c rd rm mask o s hc
  obtain ⟨-, -, -, hmrs, hmsr, -⟩ := refusedCombinations
  refine ⟨fun hrd => ?_, fun i v hmem hw => ?_⟩
  · exact ⟨_, a32Run_passed (body := moveFromStatus rd) hc ((hmrs c rd).2 hrd),
      a32Ends_writeRegs (.refl s) [(rd, s.sw)] .mrs⟩
  · have hexec : exec i s = moveToStatus mask v s := by
      fin_cases hmem
      · rw [← readReg_of_ne ((hmsr c mask rm).1 hw)]
        exact a32Run_passed hc hw
      · exact a32Run_passed hc hw
    refine ⟨fun hkept => ?_, fun ⟨hsel, hne⟩ => ?_⟩
    · have hM : modeBits (statusWrite s.sw mask v) = modeBits s.sw := by
        rw [modeBits_statusWrite]
        rcases hkept with hunsel | heq
        · exact if_neg (Bool.eq_false_iff.1 hunsel)
        · exact ite_eq_right_iff.2 fun _ => heq
      obtain ⟨t, ht, hends⟩ := moveToStatus_ends hM
      exact ⟨_, ⟨t, hexec.trans ht, hends⟩, fun j hj => statusWrite_getLsbD s.sw mask v hj⟩
    · have hM : modeBits (statusWrite s.sw mask v) = modeBits v := by
        rw [modeBits_statusWrite, if_pos hsel]
      rw [hexec, moveToStatus_fault (by rwa [hM]), hM]
      rfl

end Sys2Proof.Machine

namespace Sys2Proof.Machine

/-! ## Loads and swaps where their accesses are routed (R360, R364, R381, R382, R390, R391) -/

theorem writeRegs_append (t : State) (first last : List (Reg × Word)) :
    writeRegs t (first ++ last) = writeRegs (writeRegs t first) last := by
  induction first generalizing t with
  | nil => rfl
  | cons p rest ih => exact ih (t.writeReg p.1 p.2)

theorem KeepsRegisters.trans {s t u : State} (hst : KeepsRegisters s t) (htu : KeepsRegisters t u) :
    KeepsRegisters s u where
  x := htu.x.trans hst.x
  sw := htu.sw.trans hst.sw
  n8 := htu.n8.trans hst.n8
  sp := htu.sp.trans hst.sp
  pc := htu.pc.trans hst.pc
  running := htu.running.trans hst.running
  cfg := htu.cfg.trans hst.cfg

/-- The write-back of a load comes before its registers (R237, R360, R382). -/
theorem a32Ends_writeBackRegs {s u : State} (h : KeepsRegisters s u) (wb : Bool) (rn : Reg) (base : Word)
    (loaded : List (Reg × Word)) (row : CostRow) :
    A32Ends s u
      ((writeRegs (if wb then u.advance4.writeReg rn base else u.advance4) loaded).retire row)
      ((if wb then [(rn, base)] else []) ++ loaded) s.sw (s.cfg.cost row) := by
  rw [writeBack_eq_writeRegs, ← writeRegs_append]
  exact a32Ends_writeRegs h _ row

/-- A load whose access is routed writes the base back, then Rd, and ends. -/
theorem loadSingle_of_route {k : LoadKind} {m : Addr} {s : State} {r : Region} {o : Nat}
    (h : route s.cfg (k.access m.addr).1.toNat (k.access m.addr).2.bytes = some (r, o)) (rd rn : Reg) :
    ∃ t, loadSingle k rd rn m s = .next t ∧
      A32Ends s (s.afterRead r o (k.access m.addr).2) t
        ((if m.writeback then [(rn, m.newBase)] else [])
          ++ [(rd, k.finish m.addr (s.readValue r o (k.access m.addr).2))])
        s.sw (s.cfg.cost (.load (rd == 15))) := by
  rw [loadSingle, load_of_route h, andThen_ok]
  exact ⟨_, rfl, a32Ends_writeBackRegs (afterRead_keepsRegisters ..) m.writeback rn m.newBase [(rd, _)] _⟩

/-- Settles O27: every form is `loadSingle`, which ends where its access is routed. -/
theorem loads : Obligations.Loads := by
  intro c pre up wb rn rd imm12 op imm8 rm f hf s r o hc hw hr
  obtain ⟨t, ht, hends⟩ := loadSingle_of_route (k := f.kind) (m := f.transfer s) hr f.rd f.rn
  exact ⟨t, by rw [exec_loadForm c pre up wb rn rd imm12 op imm8 rm f hf, a32Run_passed hc hw, ht], hends⟩

/-- A list that is not zero has a register. -/
theorem registersOf_ne_nil {list : BitVec 16} (h : list ≠ 0) : registersOf list ≠ [] := by
  intro hnil
  refine h (BitVec.eq_of_getLsbD_eq fun i hi => ?_)
  have hmem := mem_registersOf list (BitVec.ofNat 4 i)
  simpa [hnil, Nat.mod_eq_of_lt hi] using hmem

/-- What the reads of a block leave of a state: they move the latch and the draws only (R103, R129). -/
theorem latchAndDraws_keepsRegisters (s : State) (latch : Word) (draws : Nat) :
    KeepsRegisters s { s with openBus := latch, draws := draws } := ⟨rfl, rfl, rfl, rfl, rfl, rfl, rfl⟩

/-- LDM whose reads left `u` writes the base back, then the registers of the list, and ends. -/
theorem loadMultiple_of_loadMany {mode : BlockMode} {rn : Reg} {list : BitVec 16} {s u : State} {loaded : List (Reg × Word)}
    (h : loadMany s (blockStart mode (s.readReg rn) list) (registersOf list) = .ok (loaded, u)) (hu : KeepsRegisters s u)
    (wb : Bool) : ∃ t, loadMultiple mode wb rn list s = .next t ∧
      A32Ends s u t ((if wb then [(rn, blockNewBase mode (s.readReg rn) list)] else []) ++ loaded) s.sw
        (s.cfg.cost (.ldm (registersOf list).length (inList list 15))) := by
  simp only [loadMultiple, h, andThen_ok]
  exact ⟨_, rfl, a32Ends_writeBackRegs hu wb rn _ loaded _⟩

/-- Settles O31: the reads of a routed block, then the write-back and the registers of the list; an admitted list is not empty, so
the latch holds the last word read. -/
theorem loadMultiple_completes : Obligations.LoadMultiple := by
  intro m c wb rn list s hc hw hrouted
  obtain ⟨hlist, hrn, -⟩ := ldmError_eq_none.1 ((encodingError_ldmOf ..).symm.trans (wellFormed_iff.1 hw))
  have hbase := readReg_of_ne hrn s
  have hmany := loadMany_routed _ s _ hrouted (registersOf_ne_nil hlist)
  obtain ⟨t, ht, hends⟩ := loadMultiple_of_loadMany (by rw [hbase]; exact hmany) (latchAndDraws_keepsRegisters ..) wb
  rw [hbase] at hends
  exact ⟨t, by rw [exec_ldmOf, a32Run_passed hc hw, ht], hends⟩

/-- SWP and SWPB are `swap` behind the condition (R390, R391). -/
theorem exec_swapForm {c : Cond} {rn rd rm : Reg} {i : Instr} {k : LoadKind}
    (h : (i, k) ∈ [(Instr.swp c rn rd rm, LoadKind.word), (Instr.swpb c rn rd rm, LoadKind.byte)]) (s : State) :
    exec i s = a32Run c i s (swap k rn rd rm) := by
  fin_cases h <;> rfl

/-- A swap whose place is routed stores Rm where it read, writes Rd, and ends. -/
theorem swap_of_route {k : LoadKind} {rn : Reg} {s : State} {r : Region} {o : Nat}
    (h : route s.cfg (k.access (s.readReg rn)).1.toNat (k.access (s.readReg rn)).2.bytes = some (r, o)) (rd rm : Reg) :
    ∃ t, swap k rn rd rm s = .next t ∧
      A32Ends s
        ((s.afterRead r o (k.access (s.readReg rn)).2).writeBytes r o
          (bytesOf (k.access (s.readReg rn)).2.bytes (s.readReg rm))) t
        [(rd, k.finish (s.readReg rn) (s.readValue r o (k.access (s.readReg rn)).2))] s.sw (s.cfg.cost .swap) := by
  have hstore := store_of_route (s := s.afterRead r o (k.access (s.readReg rn)).2) (v := s.readReg rm) h
  rw [swap, load_of_route h, andThen_ok, hstore, andThen_ok]
  exact ⟨_, rfl, a32Ends_writeRegs ((afterRead_keepsRegisters ..).trans (store_keepsRegisters hstore)) [(rd, _)] .swap⟩

/-- Settles O33: both are `swap`, whose read changes no byte and whose store changes only its own cells. -/
theorem swaps : Obligations.Swaps := by
  intro c rn rd rm s i k hmem hc hw r o hr
  obtain ⟨-, -, -, -, -, -, -, -, hswap, -⟩ := refusedCombinations
  obtain ⟨hrn, -, hrm, -, -⟩ := (hswap c rn rd rm i (List.mem_map_of_mem (f := Prod.fst) hmem)).1 hw
  rw [← readReg_of_ne hrn] at hr ⊢
  rw [← readReg_of_ne hrm]
  obtain ⟨t, ht, hends⟩ := swap_of_route hr rd rm
  have hexec : exec i s = .next t := by rw [exec_swapForm hmem, a32Run_passed hc hw, ht]
  refine ⟨⟨t, hexec, hends⟩, fun t' ht' => ?_⟩
  cases hexec.symm.trans ht'
  exact a32Ends_onlyCells hends fun cell hcell =>
    store_get (s := s.afterRead r o _) (store_of_route (v := s.readReg rm) hr) hcell

end Sys2Proof.Machine

namespace Sys2Proof.Machine

/-! ## N8 loads, stores and stack transfers where their accesses are routed (R233, R401 to R426) -/

/-- The high page is the addresses whose high byte is 0xFF (R202). -/
theorem highPage_eq_half (n : Byte) : highPage n = half 0xFF n := by
  have hn := n.isLt
  refine BitVec.eq_of_toNat_eq ?_
  rw [half, BitVec.toNat_append, ← Nat.shiftLeft_add_eq_or_of_lt hn, highPage, BitVec.toNat_add, BitVec.toNat_setWidth,
    Nat.mod_eq_of_lt (a := n.toNat) (by omega)]
  exact Nat.mod_eq_of_lt (show 0xFF00 + n.toNat < 2 ^ 16 by omega)

@[simp] theorem setPair_n8 (s : State) (p : Pair) (v : Half) : (s.setPair p v).n8 = s.n8.setPair p v := by
  cases p <;> rfl

@[simp] theorem hiByte_getPair (s : State) (p : Pair) : hiByte (s.getPair p) = s.get8 (pairHi p) := hiByte_half ..

@[simp] theorem loByte_getPair (s : State) (p : Pair) : loByte (s.getPair p) = s.get8 (pairLo p) := loByte_half ..

theorem writeByte_keepsRegisters (s : State) (r : Region) (o : Nat) (v : Byte) : KeepsRegisters s (s.writeByte r o v) :=
  ⟨writeByte_x .., writeByte_sw .., writeByte_n8 .., writeByte_sp .., writeByte_pc .., writeByte_running .., writeByte_cfg ..⟩

/-- The end of an N8 instruction whose accesses left `u` with the registers of `s`. -/
theorem n8Done_of_keepsRegisters {s u : State} (h : KeepsRegisters s u) (len : Nat) (row : CostRow) :
    n8Done len row u = .next (n8Ends u s.n8 s.sp (s.pc + BitVec.ofNat 16 len) (s.cfg.cost row)) := by
  rw [n8Done_eq, h.n8, h.sp, h.pc, h.cfg]

/-- The end of an N8 instruction that also writes a pair. -/
theorem n8Done_setPair {s u : State} (h : KeepsRegisters s u) (len : Nat) (row : CostRow) (p : Pair) (v : Half) :
    n8Done len row (u.setPair p v) =
      .next (n8Ends u (s.n8.setPair p v) s.sp (s.pc + BitVec.ofNat 16 len) (s.cfg.cost row)) := by
  rw [← h.n8, ← h.sp, ← h.pc, ← h.cfg, ← setPair_n8]
  rfl

/-- The end of an N8 instruction that also writes SP. -/
theorem n8Done_setSp {s u : State} (h : KeepsRegisters s u) (len : Nat) (row : CostRow) (sp : Half) :
    n8Done len row { u with sp := sp } =
      .next (n8Ends u s.n8 sp (s.pc + BitVec.ofNat 16 len) (s.cfg.cost row)) := by
  rw [← h.n8, ← h.pc, ← h.cfg]
  rfl

/-! ## Loads of registers (R401, R404, R420, R422) -/

theorem encode_ldRegRegForms : ∀ p ∈ ldRegRegForms, encode p.1 = [0x40 + 8 * p.2.1.code + p.2.2.code] := by
  intro p hp
  fin_cases hp <;> rfl

theorem exec_ldRegRegForms (s : State) : ∀ p ∈ ldRegRegForms, exec p.1 s = ldRegReg p.2.1 p.2.2 s := by
  intro p hp
  fin_cases hp <;> rfl

theorem encode_ldRegByteForms (d : Byte) : ∀ p ∈ ldRegByteForms, encode (p.1 d) = [0x06 + 8 * p.2.code, d] := by
  intro p hp
  fin_cases hp <;> rfl

theorem exec_ldRegByteForms (d : Byte) (s : State) : ∀ p ∈ ldRegByteForms, exec (p.1 d) s = ldRegByte p.2 d s := by
  intro p hp
  fin_cases hp <;> rfl

theorem encode_ldReg16Forms (d : Half) :
    ∀ p ∈ ldReg16Forms, encode (p.1 d) = [0x01 + 16 * p.2.code, d.setWidth 8, (d >>> 8).setWidth 8] := by
  intro p hp
  fin_cases hp <;> rfl

/-- LD rr, d16 of a pair sets the pair (R420). -/
theorem exec_ldReg16Forms (d : Half) (s : State) :
    ∀ p ∈ ldReg16Forms, exec (p.1 d) s = n8Done 3 .ldR16 (s.setPair p.2 d) := by
  intro p hp
  fin_cases hp <;> rfl

/-- Settles O35: no form makes an access, so each ends as its one write leaves the state. -/
theorem registerLoads : Obligations.RegisterLoads := by
  refine ⟨fun p hp => ⟨encode_ldRegRegForms p hp, fun s => ?_⟩,
    fun p hp d => ⟨encode_ldRegByteForms d p hp, fun s => ?_⟩,
    fun p hp d => ⟨encode_ldReg16Forms d p hp, fun s => ?_⟩, fun d => ⟨rfl, fun s => ?_⟩, rfl, fun s => ?_⟩
  · exact (exec_ldRegRegForms s p hp).trans (n8Done_eq ..)
  · exact (exec_ldRegByteForms d s p hp).trans (n8Done_eq ..)
  · exact (exec_ldReg16Forms d s p hp).trans (n8Done_setPair (.refl s) ..)
  · exact n8Done_setSp (.refl s) 3 .ldR16 d
  · exact n8Done_setSp (.refl s) 1 .ldSPHL (s.getPair .hl)

/-! ## Loads of a byte (R402, R406, R407, R410, R412, R414, R416, R417) -/

/-- What an N8 byte load is, given its address, the register array as the byte read makes it, PC and cost: where the address is
routed it completes so; where it is not, it is the Bus fault of the read. -/
def LoadsByte (s : State) : Instr × Half × (Byte → N8File) × Half × CostRow → Prop := fun (i, a, n8, pc, row) =>
  (∀ r o, Routes8 s a r o →
    exec i s = .next (n8Ends (s.afterRead r o .byte) (n8 (byteRead s r o)) s.sp pc (s.cfg.cost row))) ∧
  (route s.cfg a.toNat 1 = none → exec i s = .fault (.bus s.site (a.setWidth 32) .byte .read))

/-- A byte load is one read and what follows it. -/
theorem loadsByte_of_exec {s : State} {i : Instr} {a : Half} {n8 : Byte → N8File} {pc : Half} {row : CostRow}
    {k : Byte × State → Result} (hexec : exec i s = andThen (s.load8 a) k)
    (hk : ∀ b r o, k (b, s.afterRead r o .byte) = .next (n8Ends (s.afterRead r o .byte) (n8 b) s.sp pc (s.cfg.cost row))) :
    LoadsByte s (i, a, n8, pc, row) :=
  ⟨fun r o hr => by rw [hexec, load8_route hr, andThen_ok, hk],
    fun hr => by rw [hexec, load8_none hr, andThen_error]⟩

theorem exec_ldRegHlForms (s : State) : ∀ p ∈ ldRegHlForms, exec p.1 s = ldRegHl p.2 s := by
  intro p hp
  fin_cases hp <;> rfl

theorem exec_loadAForms (a8 : Byte) (a16 : Half) (s : State) :
    ∀ p ∈ loadAForms a8 a16, exec p.1 s = loadA (p.2.1 s) p.2.2.1 p.2.2.2 s := by
  simp only [loadAForms, ← highPage_eq_half, List.forall_mem_cons]
  exact ⟨rfl, rfl, rfl, rfl, rfl, List.forall_mem_nil _⟩

/-- A load of A that steps HL (R416, R417). -/
theorem loadsByte_of_loadAStep {s : State} {i : Instr} {step : Half} (hexec : exec i s = loadAStep step s) :
    LoadsByte s (i, s.getPair .hl, fun v => (s.n8.set .a v).setPair .hl (s.getPair .hl + step), s.pc + 1, .ldAStep) :=
  loadsByte_of_exec hexec fun b r o => n8Done_setPair (.refl ((s.afterRead r o .byte).set8 .a b)) 1 .ldAStep .hl _

/-- Settles O36: every form is one read and the writes of its registers. -/
theorem memoryLoads : Obligations.MemoryLoads := by
  refine ⟨fun p hp => ?_, fun a8 a16 => ⟨rfl, rfl, rfl, rfl, rfl, rfl, rfl⟩, fun a8 a16 s i a pc n8 row h => ?_⟩
  · fin_cases hp <;> rfl
  suffices hall : ∀ q ∈ _, LoadsByte s q from hall _ h
  simp only [List.forall_mem_append, List.forall_mem_map, List.forall_mem_cons]
  refine ⟨⟨fun p hp => ?_, fun p hp => ?_⟩, ?_, ?_, List.forall_mem_nil _⟩
  · exact loadsByte_of_exec (exec_ldRegHlForms s p hp) fun _ _ _ => rfl
  · exact loadsByte_of_exec (exec_loadAForms a8 a16 s p hp) fun _ _ _ => rfl
  · exact loadsByte_of_loadAStep rfl
  · rw [BitVec.sub_eq_add_neg]
    exact loadsByte_of_loadAStep rfl

/-! ## Stores of a byte (R403, R405, R408, R409, R411, R413, R415, R418, R419) -/

/-- What an N8 byte store is, given its address, the byte, the register array, PC and cost it ends with: where the address is
routed it completes so and changes no other cell; where it is not, it is the Bus fault of the write. -/
def StoresByte (s : State) : Instr × Half × Byte × N8File × Half × CostRow → Prop := fun (i, a, v, n8, pc, row) =>
  (∀ r o, Routes8 s a r o →
    exec i s = .next (n8Ends (s.writeByte r o v) n8 s.sp pc (s.cfg.cost row)) ∧
    OnlyCells s (s.writeByte r o v) (storedCells s.cfg (a.setWidth 32) .byte)) ∧
  (route s.cfg a.toNat 1 = none → exec i s = .fault (.bus s.site (a.setWidth 32) .byte .write))

theorem writeByte_onlyCells {s : State} {a : Half} {r : Region} {o : Nat} (v : Byte) (hr : Routes8 s a r o) :
    OnlyCells s (s.writeByte r o v) (storedCells s.cfg (a.setWidth 32) .byte) :=
  onlyCells_of (writeByte_cfg ..) fun _ => writeByte_frame v hr

/-- A byte store is one write and what follows it. -/
theorem storesByte_of_exec {s : State} {i : Instr} {a : Half} {v : Byte} {n8 : N8File} {pc : Half} {row : CostRow}
    {k : State → Result} (hexec : exec i s = andThen (s.store8 a v) k)
    (hk : ∀ r o, k (s.writeByte r o v) = .next (n8Ends (s.writeByte r o v) n8 s.sp pc (s.cfg.cost row))) :
    StoresByte s (i, a, v, n8, pc, row) :=
  ⟨fun r o hr => ⟨by rw [hexec, store8_route v hr, andThen_ok, hk], writeByte_onlyCells v hr⟩,
    fun hr => by rw [hexec, store8_none v hr, andThen_error]⟩

/-- A store that writes no register. -/
theorem storesByte_of_n8Done {s : State} {i : Instr} {a : Half} {v : Byte} {len : Nat} {row : CostRow}
    (hexec : exec i s = andThen (s.store8 a v) (n8Done len row)) :
    StoresByte s (i, a, v, s.n8, s.pc + BitVec.ofNat 16 len, row) :=
  storesByte_of_exec hexec fun r o => n8Done_of_keepsRegisters (writeByte_keepsRegisters s r o v) len row

/-- A store of A that steps HL (R418, R419). -/
theorem storesByte_of_storeAStep {s : State} {i : Instr} {step : Half} (hexec : exec i s = storeAStep step s) :
    StoresByte s (i, s.getPair .hl, s.n8.a, s.n8.setPair .hl (s.getPair .hl + step), s.pc + 1, .ldAStep) :=
  storesByte_of_exec hexec fun r o => n8Done_setPair (writeByte_keepsRegisters s r o s.n8.a) 1 .ldAStep .hl _

theorem exec_ldHlRegForms (s : State) : ∀ p ∈ ldHlRegForms, exec p.1 s = ldHlReg p.2 s := by
  intro p hp
  fin_cases hp <;> rfl

theorem exec_storeAForms (a8 : Byte) (a16 : Half) (s : State) :
    ∀ p ∈ storeAForms a8 a16, exec p.1 s = storeA (p.2.1 s) p.2.2.1 p.2.2.2 s := by
  simp only [storeAForms, ← highPage_eq_half, List.forall_mem_cons]
  exact ⟨rfl, rfl, rfl, rfl, rfl, List.forall_mem_nil _⟩

/-- Settles O37: every form is one write and, for (HL+) and (HL-), the step of HL. -/
theorem memoryStores : Obligations.MemoryStores := by
  refine ⟨fun p hp => ?_, fun a8 d8 a16 => ⟨rfl, rfl, rfl, rfl, rfl, rfl, rfl, rfl⟩,
    fun a8 d8 a16 s i a pc v n8 row h => ?_⟩
  · fin_cases hp <;> rfl
  suffices hall : ∀ q ∈ _, StoresByte s q from hall _ h
  simp only [List.forall_mem_append, List.forall_mem_map, List.forall_mem_cons]
  refine ⟨⟨fun p hp => ?_, fun p hp => ?_⟩, ?_, ?_, ?_, List.forall_mem_nil _⟩
  · exact storesByte_of_n8Done (exec_ldHlRegForms s p hp)
  · exact storesByte_of_n8Done (exec_storeAForms a8 a16 s p hp)
  · exact storesByte_of_n8Done (len := 2) rfl
  · exact storesByte_of_storeAStep rfl
  · rw [BitVec.sub_eq_add_neg]
    exact storesByte_of_storeAStep rfl

/-! ## The stack and LD (a16), SP (R421, R423 to R426) -/

/-- Two byte writes one after another, both routed. -/
theorem store8_store8_route {s : State} {a b : Half} {r r' : Region} {o o' : Nat} (ha : Routes8 s a r o)
    (hb : Routes8 s b r' o') (v w : Byte) : ∃ t, s.store8 a v = .ok t ∧
      t.store8 b w = .ok ((s.writeByte r o v).writeByte r' o' w) :=
  ⟨_, store8_route v ha, store8_route w (by rwa [Routes8, writeByte_cfg])⟩

theorem push16_route {s : State} {r r' : Region} {o o' : Nat} (hhigh : Routes8 s (s.sp - 1) r o)
    (hlow : Routes8 s (s.sp - 2) r' o') (v : Half) :
    s.push16 v = .ok { (s.writeByte r o (hiByte v)).writeByte r' o' (loByte v) with sp := s.sp - 2 } := by
  obtain ⟨t, ht, hu⟩ := store8_store8_route hhigh hlow (hiByte v) (loByte v)
  simp only [State.push16, ht, hu]

theorem pop16_route {s : State} {r r' : Region} {o o' : Nat} (hlow : Routes8 s s.sp r o)
    (hhigh : Routes8 s (s.sp + 1) r' o') :
    s.pop16 = .ok (half (byteRead (s.afterRead r o .byte) r' o') (byteRead s r o),
      { (s.afterRead r o .byte).afterRead r' o' .byte with sp := s.sp + 2 }) := by
  simp only [State.pop16, load8_route hlow, load8_route (s := s.afterRead r o .byte) hhigh]

theorem writeByte_writeByte_keepsRegisters (s : State) (r r' : Region) (o o' : Nat) (v w : Byte) :
    KeepsRegisters s ((s.writeByte r o v).writeByte r' o' w) :=
  (writeByte_keepsRegisters ..).trans (writeByte_keepsRegisters ..)

theorem push_route {s : State} {r r' : Region} {o o' : Nat} (hhigh : Routes8 s (s.sp - 1) r o)
    (hlow : Routes8 s (s.sp - 2) r' o') (p : Pair) :
    push p s = .next (n8Ends ((s.writeByte r o (s.get8 (pairHi p))).writeByte r' o' (s.get8 (pairLo p))) s.n8
      (s.sp - 2) (s.pc + 1) (s.cfg.cost .push)) := by
  have h := writeByte_writeByte_keepsRegisters s r r' o o' (s.get8 (pairHi p)) (s.get8 (pairLo p))
  rw [push, push16_route hhigh hlow, andThen_ok, hiByte_getPair, loByte_getPair]
  exact n8Done_setSp h 1 .push (s.sp - 2)

theorem pop_route {s : State} {r r' : Region} {o o' : Nat} (hlow : Routes8 s s.sp r o)
    (hhigh : Routes8 s (s.sp + 1) r' o') (p : Pair) :
    pop p s = .next (n8Ends ((s.afterRead r o .byte).afterRead r' o' .byte)
      (s.n8.setPair p (byteRead (s.afterRead r o .byte) r' o' ++ byteRead s r o))
      (s.sp + 2) (s.pc + 1) (s.cfg.cost .pop)) := by
  rw [pop, pop16_route hlow hhigh, andThen_ok, n8Done_setPair (.refl _)]
  rfl

theorem storeSp_route {s : State} {a : Half} {r r' : Region} {o o' : Nat} (hlow : Routes8 s a r o)
    (hhigh : Routes8 s (a + 1) r' o') :
    storeSp a s = .next (n8Ends ((s.writeByte r o (loByte s.sp)).writeByte r' o' (hiByte s.sp)) s.n8 s.sp (s.pc + 3)
      (s.cfg.cost .ldA16SP)) := by
  obtain ⟨t, ht, hu⟩ := store8_store8_route hlow hhigh (loByte s.sp) (hiByte s.sp)
  have h := writeByte_writeByte_keepsRegisters s r r' o o' (loByte s.sp) (hiByte s.sp)
  rw [storeSp, ht, andThen_ok, hu, andThen_ok]
  exact n8Done_of_keepsRegisters h 3 .ldA16SP

/-- Two routed byte writes change only the cells of the two. -/
theorem writeByte_writeByte_onlyCells {s : State} {a b : Half} {r r' : Region} {o o' : Nat} (ha : Routes8 s a r o)
    (hb : Routes8 s b r' o') (v w : Byte) : OnlyCells s ((s.writeByte r o v).writeByte r' o' w)
      (storedCells s.cfg (a.setWidth 32) .byte ++ storedCells s.cfg (b.setWidth 32) .byte) := by
  have hcfg := writeByte_cfg s r o v
  have hb' : Routes8 (s.writeByte r o v) b r' o' := by rwa [Routes8, hcfg]
  refine onlyCells_of ((writeByte_cfg ..).trans hcfg) fun c hc => ?_
  obtain ⟨hca, hcb⟩ := not_or.1 (mt List.mem_append.2 hc)
  exact (writeByte_frame w hb' (by rwa [hcfg])).trans (writeByte_frame v ha hca)

/-- Settles O38: a push and LD (a16), SP are two routed writes, a pop two routed reads. -/
theorem stackTransfers : Obligations.StackTransfers := by
  refine ⟨fun p hp => ⟨?_, fun s r r' o o' hhigh hlow => ?_⟩, fun p hp => ⟨?_, fun s r r' o o' hlow hhigh => ?_⟩,
    fun a => rfl, fun a16 s r r' o o' hlow hhigh => ⟨?_, ?_⟩⟩
  · fin_cases hp <;> rfl
  · rw [exec_pushForms s p hp, push_route hhigh hlow]
  · fin_cases hp <;> rfl
  · rw [exec_popForms s p hp, pop_route hlow hhigh]
  · exact storeSp_route hlow hhigh
  · exact writeByte_writeByte_onlyCells hlow hhigh _ _

end Sys2Proof.Machine

namespace Sys2Proof.Machine

/-! ## N8 arithmetic, logic and flags (R233, R440 to R465) -/

/-- The end of an N8 instruction that writes an 8-bit register and its flags. -/
theorem n8Done_apply8 (len : Nat) (row : CostRow) (s : State) (r : R8) (o : Out8) :
    n8Done len row (s.apply8 r o) = .next (n8Ends s ((s.n8.set r o.value).flags o.flags) s.sp
      (s.pc + BitVec.ofNat 16 len) (s.cfg.cost row)) := rfl

/-- The end of an N8 instruction that only sets flags. -/
theorem n8Done_setFlagsN8 (len : Nat) (row : CostRow) (s : State) (u : FlagsN8) :
    n8Done len row (s.setFlagsN8 u) =
      .next (n8Ends s (s.n8.flags u) s.sp (s.pc + BitVec.ofNat 16 len) (s.cfg.cost row)) := rfl

/-- The end of an N8 instruction that writes a pair and sets flags. -/
theorem n8Done_setPair_flags (len : Nat) (row : CostRow) (s : State) (p : Pair) (v : Half) (u : FlagsN8) :
    n8Done len row ((s.setPair p v).setFlagsN8 u) =
      .next (n8Ends s ((s.n8.setPair p v).flags u) s.sp (s.pc + BitVec.ofNat 16 len) (s.cfg.cost row)) := by
  rw [n8Done_setFlagsN8, setPair_n8]
  rfl

/-! ## The eight ALU operations (R440 to R448) -/

theorem exec_aluRegForms (s : State) : ∀ p ∈ aluRegForms, exec p.1 s = aluReg p.2.1 p.2.2 s := by
  intro p hp
  fin_cases hp <;> rfl

theorem exec_aluByteForms (d : Byte) (s : State) : ∀ p ∈ aluByteForms, exec (p.1 d) s = aluByte p.2 d s := by
  intro p hp
  fin_cases hp <;> rfl

/-- Settles O40: each form applies its operation to A, the one with (HL) after its read. -/
theorem aluInstructions : Obligations.AluInstructions := by
  refine ⟨fun p hp => ⟨?_, fun s => ?_⟩, fun p hp => ⟨?_, fun s r o hr => ?_⟩,
    fun p hp d => ⟨?_, fun s => ?_⟩⟩
  · fin_cases hp <;> rfl
  · exact (exec_aluRegForms s p hp).trans (n8Done_apply8 ..)
  · fin_cases hp <;> rfl
  · rw [exec_aluHlForms s p hp, aluHl, load8_route hr, andThen_ok]
    exact n8Done_apply8 ..
  · fin_cases hp <;> rfl
  · exact (exec_aluByteForms d s p hp).trans (n8Done_apply8 ..)

theorem beq_zero_eq_decide_toNat (v : Byte) : (v == 0) = decide (v.toNat = 0) := by
  rw [Bool.eq_iff_iff, beq_iff_eq, decide_eq_true_iff, ← BitVec.toNat_inj, BitVec.ofNat_eq_ofNat, BitVec.toNat_zero]

theorem add8_eq (a v : Byte) (c : Bool) :
    (add8 a v c).value.toNat = (a.toNat + v.toNat + c.toNat) % 256 ∧
    (add8 a v c).flags =
      { z := some (decide ((a.toNat + v.toNat + c.toNat) % 256 = 0)), n := some false,
        h := some (decide (15 < a.toNat % 16 + v.toNat % 16 + c.toNat)),
        c := some (decide (255 < a.toNat + v.toNat + c.toNat)) } := by
  have hvalue : (add8 a v c).value.toNat = (a.toNat + v.toNat + c.toNat) % 256 := BitVec.toNat_ofNat ..
  exact ⟨hvalue, by rw [← hvalue, ← beq_zero_eq_decide_toNat]; rfl⟩

/-- The difference modulo 256; 512 keeps it from falling below 0. -/
theorem sub8_eq (a v : Byte) (c : Bool) :
    (sub8 a v c).value.toNat = (a.toNat + 512 - v.toNat - c.toNat) % 256 ∧
    (sub8 a v c).flags =
      { z := some (decide ((a.toNat + 512 - v.toNat - c.toNat) % 256 = 0)), n := some true,
        h := some (decide (a.toNat % 16 < v.toNat % 16 + c.toNat)),
        c := some (decide (a.toNat < v.toNat + c.toNat)) } := by
  have hvalue : (sub8 a v c).value.toNat = (a.toNat + 512 - v.toNat - c.toNat) % 256 := by
    have hv := v.isLt
    have hc := c.toNat_lt
    rw [sub8, BitVec.toNat_ofInt]
    omega
  exact ⟨hvalue, by rw [← hvalue, ← beq_zero_eq_decide_toNat]; rfl⟩

/-- Settles O41: the sums and the differences are those of `add8` and `sub8`, with a carry for ADC and SBC only. -/
theorem aluResults : Obligations.AluResults := by
  intro a v c
  simp only [List.mem_cons, List.not_mem_nil, or_false, Prod.mk.injEq]
  refine ⟨?_, ?_, ?_⟩
  · rintro op k (⟨rfl, rfl⟩ | ⟨rfl, rfl⟩)
    · exact add8_eq a v false
    · exact add8_eq a v c
  · rintro op k (⟨rfl, rfl⟩ | ⟨rfl, rfl⟩ | ⟨rfl, rfl⟩)
    · exact sub8_eq a v false
    · exact sub8_eq a v c
    · exact ⟨rfl, (sub8_eq a v false).2⟩
  · rintro op r h (⟨rfl, rfl, rfl⟩ | ⟨rfl, rfl, rfl⟩ | ⟨rfl, rfl, rfl⟩) <;> rfl

/-! ## INC and DEC (R449 to R454) -/

theorem inc8_eq (v : Byte) : inc8 v = ⟨v + 1,
    { z := some (decide (v + 1 = 0)), n := some false, h := some (decide (v.toNat % 16 = 15)) }⟩ := by
  have hhalf : nibble v + 1 > 0xF ↔ v.toNat % 16 = 15 := by
    rw [nibble]
    omega
  rw [← decide_eq_decide.2 hhalf]
  rfl

theorem dec8_eq (v : Byte) : dec8 v = ⟨v - 1,
    { z := some (decide (v - 1 = 0)), n := some true, h := some (decide (v.toNat % 16 = 0)) }⟩ := by
  rw [← decide_eq_decide.2 (Nat.lt_one_iff (n := v.toNat % 16))]
  rfl

theorem exec_incForms (s : State) : ∀ p ∈ incForms, exec p.1 s = incReg p.2 s := by
  intro p hp
  fin_cases hp <;> rfl

theorem exec_decForms (s : State) : ∀ p ∈ decForms, exec p.1 s = decReg p.2 s := by
  intro p hp
  fin_cases hp <;> rfl

/-- Settles O42: each form is `inc8` or `dec8` of its operand. -/
theorem incDec : Obligations.IncDec := by
  refine ⟨fun p hp => ⟨?_, fun s => ?_⟩, fun p hp => ⟨?_, fun s => ?_⟩,
    rfl, rfl, fun s r o hr => ⟨?_, ?_⟩⟩
  · fin_cases hp <;> rfl
  · rw [exec_incForms s p hp, incReg, inc8_eq]
    exact n8Done_apply8 ..
  · fin_cases hp <;> rfl
  · rw [exec_decForms s p hp, decReg, dec8_eq]
    exact n8Done_apply8 ..
  · have h := modifyHl_route inc8 1 .incDecHL hr
    rwa [inc8_eq] at h
  · have h := modifyHl_route dec8 1 .incDecHL hr
    rwa [dec8_eq] at h

/-- INC rr of a pair adds 1 to the pair (R453). -/
theorem exec_inc16Forms (s : State) :
    ∀ p ∈ inc16Forms, exec p.1 s = n8Done 1 .incDecR16 (s.setPair p.2 (s.getPair p.2 + 1)) := by
  intro p hp
  fin_cases hp <;> rfl

/-- DEC rr of a pair adds -1 to the pair (R454). -/
theorem exec_dec16Forms (s : State) :
    ∀ p ∈ dec16Forms, exec p.1 s = n8Done 1 .incDecR16 (s.setPair p.2 (s.getPair p.2 + -1)) := by
  intro p hp
  fin_cases hp <;> rfl

/-- Settles O43: each form writes one pair or SP. -/
theorem increments16 : Obligations.Increments16 := by
  refine ⟨fun p hp => ⟨?_, fun s => ?_⟩, fun p hp => ⟨?_, fun s => ?_⟩,
    rfl, rfl, fun s => ⟨?_, ?_⟩⟩
  · fin_cases hp <;> rfl
  · exact (exec_inc16Forms s p hp).trans (n8Done_setPair (.refl s) ..)
  · fin_cases hp <;> rfl
  · rw [BitVec.sub_eq_add_neg]
    exact (exec_dec16Forms s p hp).trans (n8Done_setPair (.refl s) ..)
  · exact n8Done_setSp (.refl s) 1 .incDecR16 (s.sp + 1)
  · rw [BitVec.sub_eq_add_neg]
    exact n8Done_setSp (.refl s) 1 .incDecR16 (s.sp + -1)

/-! ## The 16-bit additions (R455 to R457) -/

theorem exec_addHlForms (s : State) : ∀ p ∈ addHlForms, exec p.1 s = addHl p.2 s := by
  intro p hp
  fin_cases hp <;> rfl

/-- Settles O44: ADD HL writes HL and the flags of `addHl16`; the other two write SP or HL and the flags of `addSp16`. -/
theorem additions16 : Obligations.Additions16 := by
  refine ⟨fun p hp => ⟨?_, fun s => ?_⟩, ?_⟩
  · fin_cases hp <;> rfl
  · exact (exec_addHlForms s p hp).trans (n8Done_setPair_flags ..)
  · rintro e s f rfl
    exact ⟨rfl, rfl, n8Done_setFlagsN8 2 .addSP { s with sp := (addSp16 s.sp e).value } (addSp16 s.sp e).flags,
      n8Done_setPair_flags ..⟩

end Sys2Proof.Machine

namespace Sys2Proof.Machine

/-! ## What the rotates and shifts compute (R491 to R498) -/

theorem toNat_shiftLeft_byte (v : Byte) (n : Nat) : (v <<< n).toNat = v.toNat * 2 ^ n % 256 := by
  rw [BitVec.toNat_shiftLeft, Nat.shiftLeft_eq]

theorem toNat_ushiftRight_byte (v : Byte) (n : Nat) : (v >>> n).toNat = v.toNat / 2 ^ n := by
  rw [BitVec.toNat_ushiftRight, Nat.shiftRight_eq_div_pow]

theorem toNat_getLsbD_zero (v : Byte) : (v.getLsbD 0).toNat = v.toNat % 2 := by
  rw [BitVec.getLsbD, Nat.toNat_testBit, pow_zero, Nat.div_one]

theorem toNat_getLsbD_seven (v : Byte) : (v.getLsbD 7).toNat = v.toNat / 128 := by
  have hv := v.isLt
  rw [BitVec.getLsbD, Nat.toNat_testBit]
  omega

theorem toNat_and_0x80 (v : Byte) : (v &&& 0x80).toNat = 128 * (v.getLsbD 7).toNat :=
  (Nat.and_two_pow v.toNat 7).trans (Nat.mul_comm ..)

/-- High bits and low bits put together are their sum. -/
theorem toNat_or_eq_add {high low : Byte} (n a : Nat) (hhigh : high.toNat = 2 ^ n * a) (hlow : low.toNat < 2 ^ n) :
    (high ||| low).toNat = high.toNat + low.toNat := by
  rw [BitVec.toNat_or, hhigh, Nat.two_pow_add_eq_or_of_lt hlow]

/-- A shift left by one, with what comes in at the bottom. -/
theorem toNat_shiftLeft_one_or (v : Byte) {low : Byte} (hlow : low.toNat < 2) :
    ((v <<< 1) ||| low).toNat = 2 * v.toNat % 256 + low.toNat := by
  have hv := toNat_shiftLeft_byte v 1
  rw [toNat_or_eq_add 1 (v.toNat % 128) (by omega) hlow]
  omega

/-- A shift right by one, with what comes in at the top. -/
theorem toNat_ushiftRight_one_or (v : Byte) {high : Byte} {bit : Nat} (hhigh : high.toNat = 128 * bit) :
    ((v >>> 1) ||| high).toNat = v.toNat / 2 + 128 * bit := by
  have hv := toNat_ushiftRight_byte v 1
  have hlow : (v >>> 1).toNat < 2 ^ 7 := by
    have := v.isLt
    omega
  rw [BitVec.or_comm, toNat_or_eq_add 7 bit hhigh hlow]
  omega

theorem toNat_swapNibbles (v : Byte) : ((v <<< 4) ||| (v >>> 4)).toNat = 16 * (v.toNat % 16) + v.toNat / 16 := by
  have hv := v.isLt
  have hhigh := toNat_shiftLeft_byte v 4
  have hlow := toNat_ushiftRight_byte v 4
  rw [toNat_or_eq_add 4 (v.toNat % 16) (by omega) (by omega)]
  omega

/-- RLC, RL (R491, R493): the bit `b` comes in at the bottom. -/
theorem toNat_shiftLeft_one_or_bit (v : Byte) (b : Bool) :
    ((v <<< 1) ||| (if b then 0x01 else 0 : Byte)).toNat = 2 * v.toNat % 256 + b.toNat := by
  have hbit : (if b then 0x01 else 0 : Byte).toNat = b.toNat := by cases b <;> rfl
  rw [toNat_shiftLeft_one_or v (hbit ▸ b.toNat_lt), hbit]

/-- RRC, RR (R492, R494): the bit `b` comes in at the top. -/
theorem toNat_ushiftRight_one_or_bit (v : Byte) (b : Bool) :
    ((v >>> 1) ||| (if b then 0x80 else 0 : Byte)).toNat = v.toNat / 2 + 128 * b.toNat :=
  toNat_ushiftRight_one_or v (by cases b <;> rfl)

/-- Settles O47: each operation is a shift by one with the bit that comes in, or the exchange of the nibbles. -/
theorem rotateResults : Obligations.RotateResults := by
  intro v c op r out
  simp only [List.mem_cons, List.not_mem_nil, or_false, Prod.mk.injEq, ← toNat_getLsbD_seven, ← toNat_getLsbD_zero]
  rintro (⟨rfl, rfl, rfl⟩ | ⟨rfl, rfl, rfl⟩ | ⟨rfl, rfl, rfl⟩ | ⟨rfl, rfl, rfl⟩ | ⟨rfl, rfl, rfl⟩ | ⟨rfl, rfl, rfl⟩
    | ⟨rfl, rfl, rfl⟩ | ⟨rfl, rfl, rfl⟩)
  · exact ⟨toNat_shiftLeft_one_or_bit v (v.getLsbD 7), rfl⟩
  · exact ⟨toNat_ushiftRight_one_or_bit v (v.getLsbD 0), rfl⟩
  · exact ⟨toNat_shiftLeft_one_or_bit v c, rfl⟩
  · exact ⟨toNat_ushiftRight_one_or_bit v c, rfl⟩
  · exact ⟨(toNat_shiftLeft_byte v 1).trans (by rw [pow_one, Nat.mul_comm]), rfl⟩
  · exact ⟨toNat_ushiftRight_one_or v (toNat_and_0x80 v), rfl⟩
  · exact ⟨toNat_swapNibbles v, rfl⟩
  · exact ⟨toNat_ushiftRight_byte v 1, rfl⟩

/-! ## The instructions on A and F (R458 to R465) -/

/-- RLCA turns A left (R462). -/
theorem rotCompute_rlc (v : Byte) (c : Bool) : (rotCompute .rlc v c).1 = v.rotateLeft 1 := by
  have hlow : (v >>> 7).toNat = (v.getLsbD 7).toNat := (toNat_ushiftRight_byte v 7).trans (toNat_getLsbD_seven v).symm
  refine BitVec.eq_of_toNat_eq ((toNat_shiftLeft_one_or_bit v (v.getLsbD 7)).trans ?_)
  rw [← hlow]
  exact (toNat_shiftLeft_one_or v (hlow ▸ Bool.toNat_lt _)).symm

/-- RRCA turns A right (R463). -/
theorem rotCompute_rrc (v : Byte) (c : Bool) : (rotCompute .rrc v c).1 = v.rotateRight 1 := by
  have hhigh : (v <<< 7).toNat = 128 * (v.getLsbD 0).toNat := by
    rw [toNat_shiftLeft_byte, toNat_getLsbD_zero]
    omega
  exact BitVec.eq_of_toNat_eq
    ((toNat_ushiftRight_one_or_bit v (v.getLsbD 0)).trans (toNat_ushiftRight_one_or v hhigh).symm)

theorem rotCompute_rl (v : Byte) (c : Bool) : (rotCompute .rl v c).1 = BitVec.ofNat 8 (2 * v.toNat + c.toNat) := by
  have hc := c.toNat_lt
  refine BitVec.eq_of_toNat_eq ((toNat_shiftLeft_one_or_bit v c).trans ?_)
  rw [BitVec.toNat_ofNat]
  omega

theorem rotCompute_rr (v : Byte) (c : Bool) : (rotCompute .rr v c).1 = BitVec.ofNat 8 (v.toNat / 2 + 128 * c.toNat) := by
  have hv := v.isLt
  have hc := c.toNat_lt
  refine BitVec.eq_of_toNat_eq ((toNat_ushiftRight_one_or_bit v c).trans ?_)
  rw [BitVec.toNat_ofNat]
  omega

/-- The correction of DAA: its two parts share no bit (R458). -/
theorem daaCorrection_eq_add (low high : Bool) :
    (if low then 0x06 else 0 : Byte) ||| (if high then 0x60 else 0) =
      (if low then 0x06 else 0) + (if high then 0x60 else 0) := by
  cases low <;> cases high <;> rfl

theorem xor_0xFF_eq_sub (v : Byte) : v ^^^ 0xFF = 255 - v :=
  (BitVec.xor_allOnes (x := v)).trans (BitVec.allOnes_sub_eq_not v).symm

/-- The end of one of these instructions, given what it leaves in A, the flags it sets and its cost. -/
def Adjusts (s : State) : Instr × Byte × FlagsN8 × CostRow → Prop := fun (i, a, f, row) =>
  exec i s = .next (n8Ends s ((s.n8.set .a a).flags f) s.sp (s.pc + 1) (s.cfg.cost row))

theorem adjusts_of_apply8 {s : State} {i : Instr} {o : Out8} {a : Byte} {f : FlagsN8} {row : CostRow}
    (hexec : exec i s = n8Done 1 row (s.apply8 .a o)) (ho : o = ⟨a, f⟩) : Adjusts s (i, a, f, row) := by
  subst ho
  exact hexec

/-- An accumulator rotate clears Z, N and H, and C is the bit shifted out (R462 to R465). -/
theorem adjusts_of_rotA {s : State} {i : Instr} {op : RotOp} {a : Byte} (hexec : exec i s = rotA op s)
    (ha : (rotCompute op s.n8.a (fC s.n8.f)).1 = a) :
    Adjusts s (i, a, { z := some false, n := some false, h := some false,
                       c := some (rotCompute op s.n8.a (fC s.n8.f)).2 }, .rotA) :=
  adjusts_of_apply8 hexec (by rw [← ha]; rfl)

/-- Settles O45: each of the eight writes A, or leaves it, and sets flags. -/
theorem adjustments : Obligations.Adjustments := by
  refine ⟨⟨rfl, rfl, rfl, rfl, rfl, rfl, rfl, rfl⟩, fun s i a f row => ?_⟩
  intro c low high u adjusted h
  have hdaa : daa8 s.n8.a s.n8.f = ⟨adjusted, { z := some (decide (adjusted = 0)), h := some false, c := some high }⟩ := by
    rw [daa8, daaCorrection_eq_add]
    rfl
  suffices hall : ∀ q ∈ _, Adjusts s q from hall _ h
  simp only [List.forall_mem_cons]
  refine ⟨?_, ?_, ?_, ?_, ?_, ?_, ?_, ?_, List.forall_mem_nil _⟩
  · exact adjusts_of_apply8 rfl hdaa
  · rw [← xor_0xFF_eq_sub]
    exact adjusts_of_apply8 rfl rfl
  · exact n8Done_setFlagsN8 ..
  · exact n8Done_setFlagsN8 ..
  · exact adjusts_of_rotA rfl (rotCompute_rlc ..)
  · exact adjusts_of_rotA rfl (rotCompute_rrc ..)
  · exact adjusts_of_rotA rfl (rotCompute_rl ..)
  · exact adjusts_of_rotA rfl (rotCompute_rr ..)

/-! ## The CB instructions (R490, R499 to R501) -/

theorem exec_cbRotForms (s : State) : ∀ p ∈ cbRotForms, exec p.1 s = cbRotReg p.2.1 p.2.2 s := by
  intro p hp
  fin_cases hp <;> rfl

/-- Settles O46: each form is `cbRot8` of its operand. -/
theorem cbRotates : Obligations.CbRotates := by
  refine ⟨fun p hp => ⟨?_, ?_⟩, fun p hp => ⟨?_, ?_⟩⟩
  · fin_cases hp <;> rfl
  · rintro s x rfl
    exact (exec_cbRotForms s p hp).trans (n8Done_apply8 ..)
  · fin_cases hp <;> rfl
  · rintro s r o x hr rfl
    exact (exec_cbRotHlForms s p hp).trans (modifyHl_route _ 2 .cbHL hr)

theorem exec_bitForms (s : State) : ∀ p ∈ bitForms, exec p.1 s = bitReg p.2.1 p.2.2 s := by
  intro p hp
  fin_cases hp <;> rfl

theorem exec_resForms (s : State) : ∀ p ∈ resForms, exec p.1 s = putBitReg p.2.1 false p.2.2 s := by
  intro p hp
  fin_cases hp <;> rfl

theorem exec_setForms (s : State) : ∀ p ∈ setForms, exec p.1 s = putBitReg p.2.1 true p.2.2 s := by
  intro p hp
  fin_cases hp <;> rfl

/-- Settles O48: BIT sets flags only, RES and SET write one bit of the operand. -/
theorem cbBits : Obligations.CbBits := by
  refine ⟨fun p hp => ⟨?_, fun s => ?_⟩, fun p hp => ⟨?_, fun s r o hr => ?_⟩, fun p hp => ⟨?_, fun s => ?_⟩,
    fun p hp => ⟨?_, fun s r o hr => ?_⟩, fun p hp => ⟨?_, fun s => ?_⟩, fun p hp => ⟨?_, fun s r o hr => ?_⟩⟩
  · fin_cases hp <;> rfl
  · exact (exec_bitForms s p hp).trans (n8Done_setFlagsN8 ..)
  · fin_cases hp <;> rfl
  · rw [exec_bitHlForms s p hp, bitHl, load8_route hr, andThen_ok]
    exact n8Done_setFlagsN8 ..
  · fin_cases hp <;> rfl
  · exact (exec_resForms s p hp).trans (n8Done_eq ..)
  · fin_cases hp <;> rfl
  · exact (exec_resHlForms s p hp).trans (modifyHl_route _ 2 .cbHL hr)
  · fin_cases hp <;> rfl
  · exact (exec_setForms s p hp).trans (n8Done_eq ..)
  · fin_cases hp <;> rfl
  · exact (exec_setHlForms s p hp).trans (modifyHl_route _ 2 .cbHL hr)

end Sys2Proof.Machine

namespace Sys2Proof.Machine

/-! ## N8 control flow (R511 to R522) -/

/-- A branch writes PC and ends. -/
theorem jump_eq (target : Half) (row : CostRow) (s : State) :
    jump target row s = .next (n8Ends s s.n8 s.sp target (s.cfg.cost row)) := rfl

/-- The end of a branch whose accesses left `u` with the registers of `s`, but for SP. -/
theorem jump_setSp {s u : State} (h : KeepsRegisters s u) (target sp : Half) (row : CostRow) :
    jump target row { u with sp := sp } = .next (n8Ends u s.n8 sp target (s.cfg.cost row)) := by
  rw [jump_eq, ← h.n8, ← h.cfg]
  rfl

/-- A conditional jump goes to its target or past itself (R514, R517). -/
theorem jumpIf_eq (cc : CC) (target : Half) (len : Nat) (row : Bool → CostRow) (s : State) :
    jumpIf cc target len row s = .next (n8Ends s s.n8 s.sp
      (if ccPassed cc s.n8.f then target else s.pc + BitVec.ofNat 16 len) (s.cfg.cost (row (ccPassed cc s.n8.f)))) := by
  unfold jumpIf
  cases ccPassed cc s.n8.f
  · exact n8Done_eq ..
  · exact jump_eq ..

theorem exec_jpCcForms (a16 : Half) (s : State) : ∀ p ∈ jpCcForms, exec (p.1 a16) s = jumpIf p.2 a16 3 .jpCc s := by
  intro p hp
  fin_cases hp <;> rfl

theorem exec_jrCcForms (e8 : Byte) (s : State) :
    ∀ p ∈ jrCcForms, exec (p.1 e8) s = jumpIf p.2 (relTarget s e8) 2 .jrCc s := by
  intro p hp
  fin_cases hp <;> rfl

/-- Settles O50: NOP goes past itself, the others are `jump` or `jumpIf`. -/
theorem jumps : Obligations.Jumps := by
  refine ⟨⟨rfl, rfl, fun a => rfl, fun p hp a => ?_, fun p hp e => ?_⟩,
    fun s a e => ⟨n8Done_eq .., jump_eq .., jump_eq .., fun p hp => ?_, fun p hp => ?_⟩⟩
  · fin_cases hp <;> rfl
  · fin_cases hp <;> rfl
  · exact (exec_jpCcForms a s p hp).trans (jumpIf_eq ..)
  · exact (exec_jrCcForms e s p hp).trans (jumpIf_eq ..)

/-- A call whose stack is routed pushes the address after itself and jumps (R518). -/
theorem call_route {s : State} {r r' : Region} {o o' : Nat} (hhigh : Routes8 s (s.sp - 1) r o)
    (hlow : Routes8 s (s.sp - 2) r' o') (target : Half) (len : Nat) (row : CostRow) :
    call target len row s = .next (n8Ends
      ((s.writeByte r o (hiByte (s.pc + BitVec.ofNat 16 len))).writeByte r' o' (loByte (s.pc + BitVec.ofNat 16 len)))
      s.n8 (s.sp - 2) target (s.cfg.cost row)) := by
  rw [call, push16_route hhigh hlow, andThen_ok]
  exact jump_setSp (writeByte_writeByte_keepsRegisters ..) target (s.sp - 2) row

/-- A return whose stack is routed pops PC (R520). -/
theorem ret_route {s : State} {r r' : Region} {o o' : Nat} (hlow : Routes8 s s.sp r o)
    (hhigh : Routes8 s (s.sp + 1) r' o') (row : CostRow) :
    ret row s = .next (n8Ends ((s.afterRead r o .byte).afterRead r' o' .byte) s.n8 (s.sp + 2)
      (byteRead (s.afterRead r o .byte) r' o' ++ byteRead s r o) (s.cfg.cost row)) := by
  rw [ret, pop16_route hlow hhigh, andThen_ok, jump_setSp (.refl _)]
  rfl

/-- CALL cc whose condition fails goes past itself (R519). -/
theorem callIf_failed {cc : CC} {s : State} (h : ccPassed cc s.n8.f = false) (target : Half) :
    callIf cc target s = n8Done 3 (.callCc false) s := if_neg (ne_true_of_eq_false h)

/-- RET cc whose condition fails goes past itself (R521). -/
theorem retIf_failed {cc : CC} {s : State} (h : ccPassed cc s.n8.f = false) :
    retIf cc s = n8Done 1 (.retCc false) s := if_neg (ne_true_of_eq_false h)

/-- What a call is, given its length, target and cost. -/
def Calls (s : State) : Instr × Half × Half × CostRow → Prop := fun (i, len, target, row) =>
  ∃ n, len = BitVec.ofNat 16 n ∧ exec i s = call target n row s

/-- CALL, CALL cc that passes and RST are calls (R518, R519, R522). -/
theorem calls_forms (a : Half) (s : State) :
    ∀ q ∈ (Instr.call_a16 a, 3, a, CostRow.call) ::
        (callCcForms.filter (fun p => ccPassed p.2 s.n8.f)).map (fun p => (p.1 a, 3, a, CostRow.callCc true)) ++
        rstForms.map (fun p => (p.1, 1, BitVec.ofNat 16 (8 * p.2), CostRow.rst)),
      Calls s q := by
  simp only [List.forall_mem_append, List.forall_mem_cons, List.forall_mem_map, List.mem_filter]
  refine ⟨⟨⟨3, rfl, rfl⟩, fun p ⟨hp, hc⟩ => ⟨3, rfl, ?_⟩⟩, fun p hp => ⟨1, rfl, exec_rstForms s p hp⟩⟩
  exact (exec_callCcForms a s p hp).trans (callIf_passed hc a)

/-- RET and RET cc that passes are returns (R520, R521). -/
theorem exec_returns (s : State) :
    ∀ q ∈ (Instr.ret, CostRow.ret) ::
        (retCcForms.filter (fun p => ccPassed p.2 s.n8.f)).map (fun p => (p.1, CostRow.retCc true)),
      exec q.1 s = ret q.2 s := by
  simp only [List.forall_mem_cons, List.forall_mem_map, List.mem_filter]
  exact ⟨rfl, fun p ⟨hp, hc⟩ => (exec_retCcForms s p hp).trans (retIf_passed hc)⟩

/-- Settles O51: calls and returns where the stack is routed, and conditional forms that fail, each by the shape they share. -/
theorem callsReturns : Obligations.CallsReturns := by
  refine ⟨⟨rfl, fun e => ⟨rfl, fun s => ⟨n8Done_eq .., jump_eq ..⟩⟩⟩,
    ⟨rfl, fun a => rfl, fun p hp a => ?_, fun p hp => ?_, fun p hp => ?_⟩,
    fun s r r' o o' a hhigh hlow i len target row h => ?_, fun s r r' o o' hlow hhigh i row h => ?_,
    fun s a => ⟨fun p hp hc => ?_, fun p hp hc => ?_⟩⟩
  · fin_cases hp <;> rfl
  · fin_cases hp <;> rfl
  · fin_cases hp <;> rfl
  · obtain ⟨n, rfl, hexec⟩ := calls_forms a s _ h
    exact hexec.trans (call_route hhigh hlow target n row)
  · exact (exec_returns s _ h).trans (ret_route hlow hhigh row)
  · exact (exec_callCcForms a s p hp).trans ((callIf_failed hc a).trans (n8Done_eq ..))
  · exact (exec_retCcForms s p hp).trans ((retIf_failed hc).trans (n8Done_eq ..))

end Sys2Proof.Machine
